-- ==== Sys2Proof/Word.lean ====
section
/-! DEFINITION. The word types of the Phase Unwrapper Block (00_scope.md R18, R19) and the plain pair of a normalised sample. -/

namespace Sys2Proof

/-- A raw sample byte (00_scope.md R16: unsigned 8-bit). -/
abbrev Byte := BitVec 8

/-- A 16-bit operand or counter (R33, R38, R40, R42, R83, R84). -/
abbrev Half := BitVec 16

/-- A command word or a readback word (20_memory.md R60, R61). -/
abbrev Word := BitVec 32

/-- A 64-bit string: character k of the string is bit 63 - k (20_memory.md R67). -/
abbrev Frame := BitVec 64

/-- A normalised sample (i, q): a pair of integers (10_state.md R34). In a reachable state each
component is in -128..127; NEG (41_phase_unwrapper.md R123) may make one 128, so the components
are integers and not bytes. -/
structure IQ where
  i : Int
  q : Int
  deriving DecidableEq, Repr

/-- The zero vector, PREV at reset (10_state.md R53). -/
def IQ.zero : IQ := ⟨0, 0⟩

end Sys2Proof
end

