-- ==== Sys2Proof/Config.lean ====
section
/-! DEFINITION. What is fixed for the machine: the protocol's constants (00_scope.md R8 to R10), the parameters the
spec leaves open (R11 to R14, R17), and the one free value (93_implementation_defined.md U1). -/

namespace Sys2Proof.Config

/-- Field widths in transmission order (00_scope.md R9). -/
def preWidth : Nat := 24
def syncWidth : Nat := 16
def idWidth : Nat := 20
def cmdWidth : Nat := 3
def batWidth : Nat := 1

/-- TOTAL_BITS is the sum of the named field widths, 64 (00_scope.md R8, 90_conflicts.md C1). -/
def totalBits : Nat := preWidth + syncWidth + idWidth + cmdWidth + batWidth

/-- OPEN_CODE (00_scope.md R10). -/
def openCode : BitVec 3 := 0b001

/-- CLOSE_CODE is one of the six codes other than 001 and 111 (00_scope.md R11). -/
inductive CloseCode where
  | c000 | c010 | c011 | c100 | c101 | c110
  deriving DecidableEq, Repr, Inhabited

/-- The three bits of a CLOSE_CODE. -/
def CloseCode.bits : CloseCode → BitVec 3
  | .c000 => 0b000
  | .c010 => 0b010
  | .c011 => 0b011
  | .c100 => 0b100
  | .c101 => 0b101
  | .c110 => 0b110

/-- HEX_CASE (00_scope.md R14). -/
inductive HexCase where
  | lower | upper
  deriving DecidableEq, Repr, Inhabited

/-- The configuration record of 00_scope.md R17. `depthPred` is DEDUP_DEPTH - 1, so that every
record has a depth in 1..65535 (R13). -/
structure Params where
  closeCode : CloseCode
  syncWord : Half
  depthPred : Fin 65535
  hexCase : HexCase
  deriving DecidableEq, Repr, Inhabited

/-- DEDUP_DEPTH, in 1..65535 (00_scope.md R13). -/
def Params.depth (cfg : Params) : Nat := cfg.depthPred.val + 1

/-- The block's parameters: open in the sources (R11 to R14), fixed before reset (70_reset_and_hazards.md R250).
No body: nothing can be proved about their values beyond the record's type. DESIGN CHOICE, safe: log entry 5. -/
opaque params : Params

/-- FREE VALUE: what entry k of the dedup table holds before anything is written there ("DT contents unspecified",
10_state.md R53; 93_implementation_defined.md U1: any value). Safe: log entry 6. -/
opaque dtInitial : Nat → Frame

end Sys2Proof.Config
end

