-- ==== Sys2Proof/Syntax.lean ====
section
/-! DEFINITION. The commands of the block: one constructor per row of spec/opcode_table.json (30_encoding.md R87). -/

namespace Sys2Proof

/-- The eight commands. Every operand is an unsigned field of its format's width (30_encoding.md R82 to R86).
A word that is no command is ILLEGAL: it is no row of the table and no constructor; Machine/Port.lean performs it
(44_control.md R203, log entry 10). -/
inductive Instr where
  /-- NOP (44_control.md R200). -/
  | nop
  /-- SAMPLE: raw bytes I and Q, flags SOI and EOI (41_phase_unwrapper.md R110). -/
  | sample (ib qb : Byte) (soi eoi : Bool)
  /-- END (42_bit_slicer.md R151). -/
  | endInterval
  /-- SETSPB w (42_bit_slicer.md R150). -/
  | setspb (w : Half)
  /-- CAPTURE (44_control.md R201). -/
  | capture
  /-- SELECT k (43_frame_parser.md R180). -/
  | select (k : Half)
  /-- LDFRM c, d (43_frame_parser.md R181). -/
  | ldfrm (c : BitVec 2) (d : Half)
  /-- CLRSTAT (44_control.md R202). -/
  | clrstat
  deriving DecidableEq, Repr

end Sys2Proof
end

