-- ==== Sys2Proof/WellFormed.lean ====
section
/-! DEFINITION. Well-formedness: of a decoded command (by its types), and of an assembler line, whose operands are
unbounded numbers until the assembler checks them (30_encoding.md R92: an assembler refuses an operand out of range). -/

namespace Sys2Proof

/-- A decoded command is well formed: every operand is a bit vector of its field's width (30_encoding.md R86), so no
term of `Instr` has an operand out of range and there is nothing left to check. The checks that can fail are
`AsmLine.wf`'s. -/
def Instr.wf : Instr → Bool
  | .nop | .sample _ _ _ _ | .endInterval | .setspb _ | .capture | .select _ | .ldfrm _ _ | .clrstat => true

/-- One line of assembler source after reading its numbers and before its range checks: the rows of
30_encoding.md R92 and the pseudo-instructions of R93. -/
inductive AsmLine where
  | nop
  | sample (i q : Nat) (soi eoi : Bool)
  | endInterval
  | setspb (w : Nat)
  | capture
  | select (k : Nat)
  | ldfrm (c d : Nat)
  | clrstat
  /-- `.word x`: the 32-bit word x, legal or not (R92). -/
  | word (x : Nat)
  /-- `LDFRM64 v` (R93 a). -/
  | ldfrm64 (v : Nat)
  /-- `SAMPLEN a, b` with its suffixes: already normalised components (R93 b). -/
  | samplen (a b : Int) (soi eoi : Bool)
  /-- `LDFRMSTR s`: a string of 64 characters 0 or 1 (R93 c). -/
  | ldfrmstr (s : List Char)
  deriving DecidableEq, Repr

/-- The operand checks of 30_encoding.md R92 and R93: i, q in 0..255, w, k, d in 0..65535, c in 0..3, x a 32-bit word,
v a 64-bit value, a, b in -128..127, s of exactly 64 characters 0 or 1. -/
def AsmLine.wf : AsmLine → Bool
  | .nop | .endInterval | .capture | .clrstat => true
  | .sample i q _ _ => decide (i < 256) && decide (q < 256)
  | .setspb w => decide (w < 65536)
  | .select k => decide (k < 65536)
  | .ldfrm c d => decide (c < 4) && decide (d < 65536)
  | .word x => decide (x < 2 ^ 32)
  | .ldfrm64 v => decide (v < 2 ^ 64)
  | .samplen a b _ _ => decide (-128 ≤ a) && decide (a ≤ 127) && decide (-128 ≤ b) && decide (b ≤ 127)
  | .ldfrmstr s => decide (s.length = 64) && s.all fun ch => ch == '0' || ch == '1'

end Sys2Proof
end

