-- ==== Sys2Proof/Decode.lean ====
section
/-! DEFINITION. Command encoding (30_encoding.md): the fields of a command word, the opcode map of R87, the total
decoder of R88, which rejects by name, and the encoder written from the same tables. -/

namespace Sys2Proof

/-- OP = word[31:28] (30_encoding.md R81). -/
def fieldOp (w : Word) : BitVec 4 := w.extractLsb' 28 4

/-- I = word[7:0] (30_encoding.md R82). -/
def fieldI (w : Word) : Byte := w.extractLsb' 0 8

/-- Q = word[15:8] (30_encoding.md R82). -/
def fieldQ (w : Word) : Byte := w.extractLsb' 8 8

/-- SOI = word[16] (30_encoding.md R82). -/
def fieldSoi (w : Word) : Bool := w.getLsbD 16

/-- EOI = word[17] (30_encoding.md R82). -/
def fieldEoi (w : Word) : Bool := w.getLsbD 17

/-- IMM16 = word[15:0] (30_encoding.md R83); also D of format L (R84). -/
def fieldImm16 (w : Word) : Half := w.extractLsb' 0 16

/-- C = word[17:16] (30_encoding.md R84). -/
def fieldC (w : Word) : BitVec 2 := w.extractLsb' 16 2

/-- A row of the opcode map selects a word when the word's bits under the mask equal the match (30_encoding.md R87). -/
def rowSelects (mask pattern w : Word) : Bool := w &&& mask == pattern

/-- Mask of format N: every bit is fixed (R85). -/
def maskN : Word := 0xFFFFFFFF

/-- Mask of formats S and L: bits 31:18 are fixed (R82, R84). -/
def maskSL : Word := 0xFFFC0000

/-- Mask of format K: bits 31:16 are fixed (R83). -/
def maskK : Word := 0xFFFF0000

/-- Why a word is ILLEGAL (30_encoding.md R88). -/
inductive Illegal where
  /-- word[31:28] is 0x8 or more: a reserved opcode. -/
  | reservedOpcode
  /-- The opcode is 0x0..0x7 and a reserved bit of its format is 1. -/
  | reservedBits
  deriving DecidableEq, Repr

/-- Decoding is total on all 2^32 words: the command of the one row that selects the word, or ILLEGAL with its
reason (30_encoding.md R87, R88). -/
def decode (w : Word) : Except Illegal Instr :=
  if rowSelects maskN 0x00000000 w then .ok .nop
  else if rowSelects maskSL 0x10000000 w then .ok (.sample (fieldI w) (fieldQ w) (fieldSoi w) (fieldEoi w))
  else if rowSelects maskN 0x20000000 w then .ok .endInterval
  else if rowSelects maskK 0x30000000 w then .ok (.setspb (fieldImm16 w))
  else if rowSelects maskN 0x40000000 w then .ok .capture
  else if rowSelects maskK 0x50000000 w then .ok (.select (fieldImm16 w))
  else if rowSelects maskSL 0x60000000 w then .ok (.ldfrm (fieldC w) (fieldImm16 w))
  else if rowSelects maskN 0x70000000 w then .ok .clrstat
  else if 8 ≤ (fieldOp w).toNat then .error .reservedOpcode
  else .error .reservedBits

/-- A field placed in a 32-bit word with its lowest bit at bit `lo`, zeros elsewhere. -/
def place (lo : Nat) {n : Nat} (x : BitVec n) : Word := x.setWidth 32 <<< lo

/-- The word of a command: each field at its bits in the format table of 30_encoding.md R81 to R85, reserved bits 0. -/
def encode : Instr → Word
  | .nop => place 28 0x0#4
  | .sample ib qb soi eoi =>
    place 28 0x1#4 ||| place 17 (BitVec.ofBool eoi) ||| place 16 (BitVec.ofBool soi) ||| place 8 qb ||| place 0 ib
  | .endInterval => place 28 0x2#4
  | .setspb w => place 28 0x3#4 ||| place 0 w
  | .capture => place 28 0x4#4
  | .select k => place 28 0x5#4 ||| place 0 k
  | .ldfrm c d => place 28 0x6#4 ||| place 16 c ||| place 0 d
  | .clrstat => place 28 0x7#4

/-- The 32-bit command word of a table row's bits: bit 0 is the word's least significant bit, and every bit at or above
`nbits` is 0. -/
def tableWord (nbits w : Nat) : Word := BitVec.ofNat 32 (w % 2 ^ nbits)

/-- The command the decoder reads from a table row's word. A command is one whole 32-bit write (R60, R80), so the word
is given to the decoder as it is. -/
def decodeTableWord (nbits w : Nat) : Option Instr :=
  match decode (tableWord nbits w) with
  | .ok i => some i
  | .error _ => none

end Sys2Proof
end

