-- ==== Sys2Proof/Machine/State.lean ====
section
/-! DEFINITION. The state of the block (10_state.md), the two ports as the host sees them, reset, and the outcomes of a step. -/

namespace Sys2Proof.Machine

/-- ACC in the exact integer form of 42_bit_slicer.md R140: the pair REF, N. Its real value in a state is
`State.accReal` (Machine/RealPhase.lean). Log entry 4. -/
structure PhaseAcc where
  /-- REF: the point the window's sum starts from. -/
  ref : IQ
  /-- N: whole turns added so far by WRAP. -/
  turns : Int
  deriving DecidableEq, Repr

/-- ACC = 0, in one form only. -/
def PhaseAcc.zero : PhaseAcc := ⟨IQ.zero, 0⟩

/-- The four sticky error bits of STATUS (10_state.md R43). -/
inductive ErrorBit where
  | cerr | perr | ovf | serr
  deriving DecidableEq, Repr

/-- One action of the host at the block's boundary: a write on the command port (20_memory.md R60), a read on the
readback port (R61), or the reset input (70_reset_and_hazards.md R250). -/
inductive HostAction where
  | write (w : Word)
  | read (reg : BitVec 4)
  | reset
  deriving DecidableEq, Repr

/-- The dedup table's storage: (entry index, 64-bit entry) pairs, indexes strictly rising (`Memory.wf`). It is the
block's only memory (00_scope.md R20) and its unit is the whole entry (20_memory.md R63, R68). An unlisted entry
has not been written: what it reads as is `Memory.read`'s free value (log entries 6 and 7). -/
abbrev Memory := List (Nat × Frame)

/-- Every piece of state of 10_state.md R33 to R43, and the model's two port fields. -/
structure State where
  /-- SPB (R33). -/
  spb : Half
  /-- PREV (R34). -/
  prev : IQ
  /-- HAVEPREV (R34). -/
  haveprev : Bool
  /-- IVOPEN (R35). -/
  ivopen : Bool
  /-- ACC (R36), in the form of 42_bit_slicer.md R140. -/
  acc : PhaseAcc
  /-- SC (R37). -/
  sc : Nat
  /-- NSYM (R38). -/
  nsym : Half
  /-- SHR (R39). -/
  shr : Frame
  /-- DT (R40). -/
  dt : Memory
  /-- NSTR (R40). -/
  nstr : Half
  /-- FRM (R41). -/
  frm : Frame
  /-- SEL (R42). -/
  sel : Half
  /-- STATUS.CERR (R43, R45). -/
  cerr : Bool
  /-- STATUS.PERR (R43, R45). -/
  perr : Bool
  /-- STATUS.OVF (R43, R45). -/
  ovf : Bool
  /-- STATUS.SERR (R43, R45). -/
  serr : Bool
  /-- The MODEL's own: what the host is still going to do, oldest first. Log entry 1. -/
  port : List HostAction
  /-- The MODEL's own: what the readback port has answered, latest first. Log entry 2. -/
  replies : List Word
  deriving DecidableEq, Repr

/-- The state after reset (10_state.md R53, 70_reset_and_hazards.md R250). Nothing of DT is listed: its contents are
unspecified. The two port fields are empty (log entries 1 and 2). -/
def State.reset : State :=
  { spb := 0, prev := IQ.zero, haveprev := false
    ivopen := false, acc := PhaseAcc.zero, sc := 0, nsym := 0, shr := 0
    dt := [], nstr := 0
    frm := 0, sel := 0
    cerr := false, perr := false, ovf := false, serr := false
    port := [], replies := [] }

/-- There is no fault: no command stops the block (60_exceptions.md R220, R229), and no access has an address that
could be wrong (20_memory.md R68). Safe: a step of the model cannot end here. -/
inductive Fault where
  deriving DecidableEq, Repr

/-- Why a step would have no meaning. -/
inductive Refusal where
  /-- Raised only by an arm of `exec` whose instruction has no meaning yet; this model has no such arm. Safe: the model
  stops where the hardware goes on. -/
  | notModelled (mnemonic : String)
  deriving DecidableEq, Repr

end Sys2Proof.Machine
end

