-- ==== Sys2Proof/Machine/Flags.lean ====
section
/-! DEFINITION. The STATUS flags: setting a sticky bit, clearing them, and the STATUS word (10_state.md R43, R45;
60_exceptions.md R220 to R225). There are no condition codes (R43). -/

namespace Sys2Proof.Machine

/-- An error condition sets its one sticky bit and nothing else: the block's whole error mechanism, in the place of an
exception entry (60_exceptions.md R220, R225). No state is saved, no mode changes (R229). -/
def State.record (s : State) (e : ErrorBit) : State :=
  match e with
  | .cerr => { s with cerr := true }
  | .perr => { s with perr := true }
  | .ovf => { s with ovf := true }
  | .serr => { s with serr := true }

/-- The only operation on the error record: all four sticky bits to 0 (60_exceptions.md R230, 44_control.md R202). -/
def State.clearErrors (s : State) : State :=
  { s with cerr := false, perr := false, ovf := false, serr := false }

/-- A sticky bit by its name. -/
def State.errorBit (s : State) : ErrorBit → Bool
  | .cerr => s.cerr
  | .perr => s.perr
  | .ovf => s.ovf
  | .serr => s.serr

/-- STATUS, register 0x0: bits 11:8 are SERR, OVF, PERR, CERR, bit 1 HAVEPREV, bit 0 IVOPEN, every other bit 0
(10_state.md R45). -/
def State.status (s : State) : Word :=
  place 11 (BitVec.ofBool s.serr) ||| place 10 (BitVec.ofBool s.ovf) ||| place 9 (BitVec.ofBool s.perr) |||
    place 8 (BitVec.ofBool s.cerr) ||| place 1 (BitVec.ofBool s.haveprev) ||| place 0 (BitVec.ofBool s.ivopen)

end Sys2Proof.Machine
end

