-- ==== Sys2Proof/Machine/Operands.lean ====
section
/-! DEFINITION. Operand forms: the signed reading of a raw sample (41_phase_unwrapper.md R101) and the place of a 16-bit
chunk of FRM (30_encoding.md R84). Every other operand is used as the unsigned field it is (R86). -/

namespace Sys2Proof.Machine

/-- NORM(I, Q) = (I - 128, Q - 128), exact integers in -128..127 (41_phase_unwrapper.md R101). -/
def normalise (ib qb : Byte) : IQ := ⟨(ib.toNat : Int) - 128, (qb.toNat : Int) - 128⟩

/-- Lowest bit of chunk c of FRM: 16·c (30_encoding.md R84). -/
def chunkBase (c : BitVec 2) : Nat := 16 * c.toNat

/-- The bits of chunk c of a 64-bit register. -/
def chunkMask (c : BitVec 2) : Frame := 0xFFFF#64 <<< chunkBase c

/-- x with chunk c replaced by d, other bits unchanged (43_frame_parser.md R181). -/
def putChunk (c : BitVec 2) (d : Half) (x : Frame) : Frame :=
  (x &&& ~~~(chunkMask c)) ||| (d.setWidth 64 <<< chunkBase c)

end Sys2Proof.Machine
end

