-- ==== Sys2Proof/Machine/Phase.lean ====
section
/-! DEFINITION. The phase path in the exact integer form of 41_phase_unwrapper.md R120 to R125, which is what runs. Its
agreement with the real-valued rules R102 to R104 (Machine/RealPhase.lean) is stated in the obligations. -/

namespace Sys2Proof.Machine

/-- CLS: the angular class of a point (41_phase_unwrapper.md R120). -/
def phaseClass (a : IQ) : Nat :=
  if a.q < 0 then 0
  else if 0 < a.q then 2
  else if 0 ≤ a.i then 1
  else 3

/-- CROSS(a, b) = a.i·b.q - a.q·b.i (41_phase_unwrapper.md R121). -/
def cross (a b : IQ) : Int := a.i * b.q - a.q * b.i

/-- a·b = a.i·b.i + a.q·b.q (41_phase_unwrapper.md R125). -/
def dot (a b : IQ) : Int := a.i * b.i + a.q * b.q

/-- PH_LT(a, b): PHASE(a) < PHASE(b) (41_phase_unwrapper.md R121). -/
def phLt (a b : IQ) : Bool :=
  decide (phaseClass a < phaseClass b) ||
    (decide (phaseClass a = phaseClass b) && (decide (phaseClass a = 0) || decide (phaseClass a = 2)) &&
      decide (0 < cross a b))

/-- PH_EQ(a, b): PHASE(a) = PHASE(b) (41_phase_unwrapper.md R121). -/
def phEq (a b : IQ) : Bool := !phLt a b && !phLt b a

/-- PH_POS(a): PHASE(a) > 0 (41_phase_unwrapper.md R122). -/
def phPos (a : IQ) : Bool := decide (phaseClass a = 2) || decide (phaseClass a = 3)

/-- NEG(a) (41_phase_unwrapper.md R123). -/
def neg (a : IQ) : IQ := ⟨-a.i, -a.q⟩

/-- WDIR(p, v): the whole turns WRAP adds to PHASE(v) - PHASE(p) (41_phase_unwrapper.md R124). -/
def wdir (p v : IQ) : Int :=
  if phPos v && phLt p (neg v) then -1
  else if phPos p && !phLt (neg p) v then 1
  else 0

/-- A zero vector replaced by (1, 0), which has the same phase (41_phase_unwrapper.md R125). -/
def unzero (a : IQ) : IQ := if a = IQ.zero then ⟨1, 0⟩ else a

/-- Sign of one difference by cross and dot product: 1, 0 or -1 (41_phase_unwrapper.md R125). -/
def diffSign (p v : IQ) : Int :=
  let c := cross (unzero p) (unzero v)
  if 0 < c then 1
  else if c < 0 then -1
  else if dot (unzero p) (unzero v) < 0 then 1
  else 0

/-- One phase difference DIFF(p, v, h) as an exact datum: it leads from `start` to `stop` with `turns` whole turns, so its
real value is PHASE(stop) - PHASE(start) + 2π·turns (R124). For h = 0 it is 0 = PHASE(v) - PHASE(v)
(41_phase_unwrapper.md R104, 42_bit_slicer.md R140). -/
structure PhaseStep where
  start : IQ
  stop : IQ
  turns : Int
  deriving DecidableEq, Repr

/-- DIFF(p, v, h) (41_phase_unwrapper.md R104, 42_bit_slicer.md R140). -/
def diff (p v : IQ) (h : Bool) : PhaseStep :=
  if h then ⟨p, v, wdir p v⟩ else ⟨v, v, 0⟩

/-- The accumulator after adding `d` to `a`, where `first` says that the window has no sample yet (42_bit_slicer.md R140). -/
def PhaseAcc.add (a : PhaseAcc) (first : Bool) (d : PhaseStep) : PhaseAcc :=
  if first then ⟨d.start, d.turns⟩ else ⟨a.ref, a.turns + d.turns⟩

/-- ACC > 0, with LAST the latest accumulated sample (42_bit_slicer.md R141). -/
def PhaseAcc.isPos (a : PhaseAcc) (last : IQ) : Bool :=
  decide (1 ≤ a.turns) || (decide (a.turns = 0) && phLt a.ref last)

end Sys2Proof.Machine
end

