-- ==== Sys2Proof/Machine/Ops.lean ====
section
/-! DEFINITION. The shared operations of the commands: the dedup table's storage, the slicer's OPEN, ACCUM, CLOSE, ABORT,
DEDUP_INSERT and SLICE (42_bit_slicer.md R131 to R145), the per-file clearing (44_control.md R201), and the ports. -/

namespace Sys2Proof.Machine

/-- The canonical form of the table's storage: entry indexes strictly rise, so equal tables are equal lists. -/
def Memory.wf : Memory → Bool
  | [] => true
  | [_] => true
  | a :: b :: rest => decide (a.1 < b.1) && Memory.wf (b :: rest)

/-- The entry written last at index k, if one was. -/
def Memory.lookup (k : Nat) : Memory → Option Frame
  | [] => none
  | (j, v) :: rest => if j = k then some v else Memory.lookup k rest

/-- DT[k] (00_scope.md R20). An entry nothing has written reads as a FREE VALUE (93_implementation_defined.md U1,
log entry 6); SELECT never reaches one in a reachable state. -/
def Memory.read (m : Memory) (k : Nat) : Frame :=
  match m.lookup k with
  | some v => v
  | none => Config.dtInitial k

/-- DT[k] <- v (00_scope.md R20), keeping the indexes strictly rising. -/
def Memory.write (k : Nat) (v : Frame) : Memory → Memory
  | [] => [(k, v)]
  | (j, u) :: rest =>
    if k < j then (k, v) :: (j, u) :: rest
    else if k = j then (k, v) :: rest
    else (j, u) :: Memory.write k v rest

/-- Whether some k in 0..NSTR-1 has DT[k] = v (42_bit_slicer.md R145). -/
def State.hasString (s : State) (v : Frame) : Bool :=
  (List.range s.nstr.toNat).any fun k => s.dt.read k == v

/-- DT[NSTR] <- v; NSTR <- NSTR + 1 (42_bit_slicer.md R145). -/
def State.addString (s : State) (v : Frame) : State :=
  { s with dt := s.dt.write s.nstr.toNat v, nstr := s.nstr + 1 }

/-- DEDUP_INSERT(v): a string already in the set changes nothing, a new one is added while there is room, and dropped
with OVF when the table is full (42_bit_slicer.md R145). -/
def dedupInsert (cfg : Config.Params) (v : Frame) (s : State) : State :=
  if s.hasString v then s
  else if s.nstr.toNat < cfg.depth then s.addString v
  else s.record .ovf

/-- OPEN() (42_bit_slicer.md R132). -/
def State.openInterval (s : State) : State :=
  { s with ivopen := true, acc := PhaseAcc.zero, sc := 0, nsym := 0, shr := 0 }

/-- ABORT(): IVOPEN, ACC and SC to 0, no string inserted (42_bit_slicer.md R136); CLOSE ends with the same writes (R135). -/
def State.abortInterval (s : State) : State :=
  { s with ivopen := false, acc := PhaseAcc.zero, sc := 0 }

/-- CLOSE(): insert a string of exactly TOTAL_BITS symbols, then end the interval; the remainder samples are discarded,
NSYM and SHR stay (42_bit_slicer.md R135). -/
def closeInterval (cfg : Config.Params) (s : State) : State :=
  if s.nsym.toNat = Config.totalBits then (dedupInsert cfg s.shr s).abortInterval
  else s.abortInterval

/-- A decided bit shifted in at bit 0, modulo 2^64 (42_bit_slicer.md R133). -/
def shiftIn (r : Frame) (b : Bool) : Frame := (r <<< 1) ||| (BitVec.ofBool b).setWidth 64

/-- min(n + 1, 0xFFFF) (42_bit_slicer.md R133; NSYM saturates, 10_state.md R38). -/
def satSucc (n : Half) : Half := BitVec.ofNat 16 (min (n.toNat + 1) 0xFFFF)

/-- The end of a window: the bit is shifted in, NSYM counts it, ACC and SC are cleared (42_bit_slicer.md R133). -/
def State.dump (s : State) (b : Bool) : State :=
  { s with shr := shiftIn s.shr b, nsym := satSucc s.nsym, acc := PhaseAcc.zero, sc := 0 }

/-- The window goes on with the new sum and one more sample (42_bit_slicer.md R133). -/
def State.holdSum (s : State) (a : PhaseAcc) : State :=
  { s with acc := a, sc := s.sc + 1 }

/-- ACCUM(d): add d to the sum and count the sample; a full window of SPB samples is dumped, its bit 1 exactly for a
strictly positive sum (42_bit_slicer.md R133, R134, R140, R141). -/
def accum (d : PhaseStep) (s : State) : State :=
  let a := s.acc.add (s.sc == 0) d
  if s.sc + 1 = s.spb.toNat then s.dump (a.isPos d.stop) else s.holdSum a

/-- ACCUM(d), then CLOSE() on the interval's last sample (42_bit_slicer.md R131). -/
def accumClose (cfg : Config.Params) (eoi : Bool) (d : PhaseStep) (s : State) : State :=
  if eoi then closeInterval cfg (accum d s) else accum d s

/-- SOI while an interval is open: PERR, and the old interval is aborted (42_bit_slicer.md R131). -/
def abortUnclosed (s : State) : State :=
  if s.ivopen then (s.record .perr).abortInterval else s

/-- SLICE(SOI, EOI, d) (42_bit_slicer.md R131). -/
def slice (cfg : Config.Params) (soi eoi : Bool) (d : PhaseStep) (s : State) : State :=
  if soi then
    if (abortUnclosed s).spb = 0 then (abortUnclosed s).record .perr
    else accumClose cfg eoi d (abortUnclosed s).openInterval
  else if eoi && !s.ivopen then s.record .perr
  else if s.ivopen then accumClose cfg eoi d s
  else s

/-- PREV <- v; HAVEPREV <- 1 (41_phase_unwrapper.md R110). -/
def State.notePrev (s : State) (v : IQ) : State :=
  { s with prev := v, haveprev := true }

/-- SPB <- w (42_bit_slicer.md R150). -/
def State.setSpb (s : State) (w : Half) : State := { s with spb := w }

/-- FRM <- DT[k]; SEL <- k (43_frame_parser.md R180). -/
def State.selectEntry (s : State) (k : Half) : State :=
  { s with frm := s.dt.read k.toNat, sel := k }

/-- One 16-bit chunk of FRM <- d (43_frame_parser.md R181). -/
def State.loadChunk (s : State) (c : BitVec 2) (d : Half) : State :=
  { s with frm := putChunk c d s.frm }

/-- The per-file state cleared: phase history, open interval, the set and OVF; SPB, FRM, SEL, the contents of DT and the
other sticky bits stay (44_control.md R201). -/
def State.newCapture (s : State) : State :=
  { s with prev := IQ.zero, haveprev := false, ivopen := false, acc := PhaseAcc.zero, sc := 0, nsym := 0, shr := 0,
           nstr := 0, ovf := false }

/-- The reset input: every state element of the block at its reset value; what the host is still going to do and what it
has already read are the host's (70_reset_and_hazards.md R250, log entry 9). -/
def State.resetBlock (s : State) : State :=
  { State.reset with port := s.port, replies := s.replies }

/-- The readback port answers a word (20_memory.md R61). -/
def State.reply (s : State) (w : Word) : State := { s with replies := w :: s.replies }

/-- The state once the host's oldest action is taken from the port. -/
def State.withPort (s : State) (rest : List HostAction) : State := { s with port := rest }

/-- A command word placed where the next step takes it: the host's next action is to write it (20_memory.md R60). -/
def State.pushWord (s : State) (w : Word) : State := { s with port := .write w :: s.port }

end Sys2Proof.Machine
end

