-- ==== Sys2Proof/Machine/Control.lean ====
section
/-! DEFINITION. The control family: NOP, CAPTURE, CLRSTAT, and what an ILLEGAL word does (44_control.md). -/

namespace Sys2Proof.Machine

/-- NOP: no state changes (44_control.md R200). -/
def execNop (s : State) : Host.Outcome State Fault Refusal := .next s

/-- CAPTURE: start a new capture file (44_control.md R201). -/
def execCapture (s : State) : Host.Outcome State Fault Refusal := .next s.newCapture

/-- CLRSTAT: clear the four sticky bits; the mirrors IVOPEN and HAVEPREV are not storage of STATUS (44_control.md R202). -/
def execClrstat (s : State) : Host.Outcome State Fault Refusal := .next s.clearErrors

/-- An ILLEGAL word: STATUS.CERR, no other state changes, no trap (44_control.md R203, 30_encoding.md R89). -/
def execIllegal (s : State) : Host.Outcome State Fault Refusal := .next (s.record .cerr)

end Sys2Proof.Machine
end

