-- ==== Sys2Proof/Machine/Parser.lean ====
section
/-! DEFINITION. The frame parser family: the parser's functions of FRM (43_frame_parser.md R170 to R179) and the commands
SELECT and LDFRM (R180, R181). -/

namespace Sys2Proof.Machine

/-- PRE = FRM[63:40], discarded by the parser (43_frame_parser.md R171, R174). -/
def framePre (f : Frame) : BitVec 24 := f.extractLsb' 40 24

/-- SYNC = FRM[39:24] (43_frame_parser.md R171). -/
def frameSync (f : Frame) : Half := f.extractLsb' 24 16

/-- DEVID = FRM[23:4] (43_frame_parser.md R171, R173). -/
def frameDevid (f : Frame) : BitVec 20 := f.extractLsb' 4 20

/-- CMDRAW = FRM[3:1] (43_frame_parser.md R171). -/
def frameCmdraw (f : Frame) : BitVec 3 := f.extractLsb' 1 3

/-- BATRAW = FRM[0] (43_frame_parser.md R171). -/
def frameBatraw (f : Frame) : BitVec 1 := f.extractLsb' 0 1

/-- SYNC_OK = (SYNC = SYNC_WORD) (43_frame_parser.md R172). -/
def frameSyncOk (cfg : Config.Params) (f : Frame) : Bool := frameSync f == cfg.syncWord

/-- The command enum (43_frame_parser.md R177). -/
inductive CmdEnum where
  | unknown | cmdOpen | cmdClose
  deriving DecidableEq, Repr

/-- The battery enum; UNKNOWN is kept for completeness and never produced (43_frame_parser.md R178). -/
inductive BatEnum where
  | unknown | ok | low
  deriving DecidableEq, Repr

/-- Command lookup (43_frame_parser.md R177). -/
def cmdOf (cfg : Config.Params) (code : BitVec 3) : CmdEnum :=
  if code = Config.openCode then .cmdOpen
  else if code = cfg.closeCode.bits then .cmdClose
  else .unknown

/-- Battery lookup (43_frame_parser.md R178). -/
def batOf (code : BitVec 1) : BatEnum := if code = 1 then .ok else .low

/-- CMDBAT[5:4]: 0 UNKNOWN, 1 OPEN, 2 CLOSE (43_frame_parser.md R177). -/
def cmdBits : CmdEnum → BitVec 2
  | .unknown => 0
  | .cmdOpen => 1
  | .cmdClose => 2

/-- CMDBAT[7:6]: 0 UNKNOWN, 1 OK, 2 LOW (43_frame_parser.md R178). -/
def batBits : BatEnum → BitVec 2
  | .unknown => 0
  | .ok => 1
  | .low => 2

/-- One hex digit, letters in the case of HEX_CASE (43_frame_parser.md R175). -/
def hexDigit (hc : Config.HexCase) (d : Nat) : Char :=
  if d < 10 then Char.ofNat (48 + d)
  else match hc with
    | .lower => Char.ofNat (97 + (d - 10))
    | .upper => Char.ofNat (65 + (d - 10))

/-- The k hex digits of x, most significant nibble first, leading zeros kept. -/
def hexDigits (hc : Config.HexCase) : Nat → Nat → List Char
  | 0, _ => []
  | k + 1, x => hexDigits hc k (x / 16) ++ [hexDigit hc (x % 16)]

/-- HEXSTR(x, n): "0x" and the ceil(n/4) hex digits of the n-bit field x (43_frame_parser.md R175). -/
def hexStr (hc : Config.HexCase) (x n : Nat) : List Char := ['0', 'x'] ++ hexDigits hc ((n + 3) / 4) x

/-- DEVICE_ID_STRING = HEXSTR(DEVID, 20) (43_frame_parser.md R176). -/
def deviceIdString (cfg : Config.Params) (f : Frame) : List Char :=
  hexStr cfg.hexCase (frameDevid f).toNat Config.idWidth

/-- The parsed frame record (43_frame_parser.md R179). -/
structure ParsedFrame where
  sync : Half
  deviceId : List Char
  command : CmdEnum
  battery : BatEnum
  deriving DecidableEq, Repr

/-- The parse of a frame: defined for every one of the 2^64 values, never fails, changes nothing (43_frame_parser.md R170, R179). -/
def parseFrame (cfg : Config.Params) (f : Frame) : ParsedFrame :=
  ⟨frameSync f, deviceIdString cfg f, cmdOf cfg (frameCmdraw f), batOf (frameBatraw f)⟩

/-- A bit string as a number, its first character most significant: the 64-bit value of a 64-character string has
character k at bit 63 - k (20_memory.md R67, 00_scope.md R22). -/
def packBits (bits : List Bool) : Frame := bits.foldl shiftIn 0

/-- Character k of the string a 64-bit register holds (20_memory.md R67). -/
def frameChar (f : Frame) (k : Nat) : Bool := decide (k < 64) && f.getLsbD (63 - k)

/-- SELECT k: FRM from entry k of the table, or SERR when k is not below NSTR (43_frame_parser.md R180). -/
def execSelect (k : Half) (s : State) : Host.Outcome State Fault Refusal :=
  .next (if k.toNat < s.nstr.toNat then s.selectEntry k else s.record .serr)

/-- LDFRM c, d: one chunk of FRM from the host (43_frame_parser.md R181). -/
def execLdfrm (c : BitVec 2) (d : Half) (s : State) : Host.Outcome State Fault Refusal :=
  .next (s.loadChunk c d)

end Sys2Proof.Machine
end

