-- ==== Sys2Proof/Machine/Slicer.lean ====
section
/-! DEFINITION. The bit slicer family's own commands: SETSPB and END (42_bit_slicer.md R150, R151). -/

namespace Sys2Proof.Machine

/-- SETSPB w: refused with CERR when w = 0 or an interval is open, else SPB <- w (42_bit_slicer.md R150). -/
def execSetspb (w : Half) (s : State) : Host.Outcome State Fault Refusal :=
  .next (if w = 0 ∨ s.ivopen = true then s.record .cerr else s.setSpb w)

/-- END: close the open interval as if its last SAMPLE had carried EOI; nothing when none is open (42_bit_slicer.md R151). -/
def execEnd (s : State) : Host.Outcome State Fault Refusal :=
  .next (if s.ivopen then closeInterval Config.params s else s)

end Sys2Proof.Machine
end

