-- ==== Sys2Proof/Machine/Unwrapper.lean ====
section
/-! DEFINITION. The phase unwrapper family: SAMPLE (41_phase_unwrapper.md R100, R110). -/

namespace Sys2Proof.Machine

/-- SAMPLE I, Q, SOI, EOI (41_phase_unwrapper.md R110): normalise, take the difference to the previous sample, store
PREV and HAVEPREV on every sample inside or outside an interval (R100), then SLICE. The phase path never fails (R111). -/
def execSample (ib qb : Byte) (soi eoi : Bool) (s : State) : Host.Outcome State Fault Refusal :=
  .next (slice Config.params soi eoi (diff s.prev (normalise ib qb) s.haveprev) (s.notePrev (normalise ib qb)))

end Sys2Proof.Machine
end

