-- ==== Sys2Proof/Machine/Dispatch.lean ====
section
/-! DEFINITION. One arm per command, each a direct call of its meaning. -/

namespace Sys2Proof.Machine

def exec (i : Instr) (s : State) : Host.Outcome State Fault Refusal :=
  match i with
  | .nop => Sys2Proof.Machine.execNop s
  | .sample ib qb soi eoi => Sys2Proof.Machine.execSample ib qb soi eoi s
  | .endInterval => Sys2Proof.Machine.execEnd s
  | .setspb w => Sys2Proof.Machine.execSetspb w s
  | .capture => Sys2Proof.Machine.execCapture s
  | .select k => Sys2Proof.Machine.execSelect k s
  | .ldfrm c d => Sys2Proof.Machine.execLdfrm c d s
  | .clrstat => Sys2Proof.Machine.execClrstat s

end Sys2Proof.Machine
end

