-- ==== Sys2Proof/Machine/Readback.lean ====
section
/-! DEFINITION. The readback registers: functions of the state, without side effect (10_state.md R45 to R51; 20_memory.md
R61, R74), and what the host reads through them (R69). -/

namespace Sys2Proof.Machine

/-- SYNC, register 0x7 (10_state.md R48). -/
def syncReg (cfg : Config.Params) (f : Frame) : Word :=
  place 16 (BitVec.ofBool (frameSyncOk cfg f)) ||| place 0 (frameSync f)

/-- DEVID, register 0x8 (10_state.md R49). -/
def devidReg (f : Frame) : Word := place 0 (frameDevid f)

/-- CMDBAT, register 0x9: [7:6] BAT, [5:4] CMD, [3] BATRAW, [2:0] CMDRAW (10_state.md R50). -/
def cmdbatReg (cfg : Config.Params) (f : Frame) : Word :=
  place 6 (batBits (batOf (frameBatraw f))) ||| place 4 (cmdBits (cmdOf cfg (frameCmdraw f))) |||
    place 3 (frameBatraw f) ||| place 0 (frameCmdraw f)

/-- CAPS, register 0xA: [18:16] CLOSE_CODE, [15:0] DEDUP_DEPTH (10_state.md R51). -/
def capsReg (cfg : Config.Params) : Word :=
  place 16 cfg.closeCode.bits ||| place 0 (BitVec.ofNat 16 cfg.depth)

/-- SYNCW, register 0xB (10_state.md R51). -/
def syncwReg (cfg : Config.Params) : Word := place 0 cfg.syncWord

/-- A read of readback register `reg` (20_memory.md R61, map R74): one whole 32-bit word computed from the state.
Registers 0xC to 0xF read 0 (10_state.md R51). -/
def readback (cfg : Config.Params) (reg : BitVec 4) (s : State) : Word :=
  match reg.toNat with
  | 0x0 => s.status
  | 0x1 => place 0 s.spb
  | 0x2 => place 0 s.nstr
  | 0x3 => place 0 s.nsym
  | 0x4 => place 0 s.sel
  | 0x5 => s.frm.extractLsb' 32 32
  | 0x6 => s.frm.extractLsb' 0 32
  | 0x7 => syncReg cfg s.frm
  | 0x8 => devidReg s.frm
  | 0x9 => cmdbatReg cfg s.frm
  | 0xA => capsReg cfg
  | 0xB => syncwReg cfg
  | _ => 0

/-- Batch mode: the list of unique bit strings of the capture, DT[0..NSTR-1] (20_memory.md R69). -/
def uniqueStrings (s : State) : List Frame := (List.range s.nstr.toNat).map fun k => s.dt.read k

/-- Per-file output: the parsed record of each unique string (20_memory.md R69, 43_frame_parser.md R179). -/
def parsedRecords (cfg : Config.Params) (s : State) : List ParsedFrame := (uniqueStrings s).map (parseFrame cfg)

end Sys2Proof.Machine
end

