-- ==== Sys2Proof/Machine/Port.lean ====
section
/-! DEFINITION. The block at its ports: a command word is decoded and performed completely before the next (10_state.md R30,
20_memory.md R65), a read is answered from the state between two commands (R61), and reset (70_reset_and_hazards.md R250). -/

namespace Sys2Proof.Machine

/-- Perform one command word: the decoded command, or for an ILLEGAL word what 44_control.md R203 says. There is no trap,
no stall and no retry (60_exceptions.md R220). -/
def performWord (w : Word) (s : State) : Host.Outcome State Fault Refusal :=
  match decode w with
  | .ok i => exec i s
  | .error _ => execIllegal s

/-- Perform one action of the host. A read changes nothing of the block (20_memory.md R61). -/
def performAction (a : HostAction) (s : State) : Host.Outcome State Fault Refusal :=
  match a with
  | .write w => performWord w s
  | .read reg => .next (s.reply (readback Config.params reg s))
  | .reset => .next s.resetBlock

/-- One step: the host's oldest action is taken and performed whole. With no action the block is idle and keeps its
state (60_exceptions.md R235; log entry 3). -/
def stepPort (s : State) : Host.Outcome State Fault Refusal :=
  match s.port with
  | [] => .next s
  | a :: rest => performAction a (s.withPort rest)

/-- Commands performed one after the other in the host's order (20_memory.md R65). -/
def execAll : List Instr → State → Host.Outcome State Fault Refusal
  | [], s => .next s
  | i :: rest, s =>
    match exec i s with
    | .next t => execAll rest t
    | .fault r => .fault r
    | .refused r => .refused r

end Sys2Proof.Machine
end

