-- ==== Sys2Proof/Machine/Step.lean ====
section
/-! DEFINITION. One step of the machine, and the placing of one instruction where the next step takes it. -/

namespace Sys2Proof.Machine

/-- One step: the host's oldest action on the block (Machine/Port.lean). -/
def step (s : State) : Host.Outcome State Fault Refusal := stepPort s

/-- The host's next action is to write the table row's word to the command port; nothing else changes. The block stores no
program (10_state.md R32), so this stands for that write (log entry 1). -/
def State.withFetchWord (s : State) (nbits w : Nat) : State := s.pushWord (tableWord nbits w)

end Sys2Proof.Machine
end

