-- ==== Sys2Proof/Machine/Assembler.lean ====
section
/-! DEFINITION. The assembler of 30_encoding.md R92 and R93: what each source line encodes, and the reading of a line of text.
It is the host's tool; no command of the block depends on it. -/

namespace Sys2Proof.Machine

/-- The raw byte of a normalised component a in -128..127: a + 128 (30_encoding.md R93 b). -/
def rawByte (a : Int) : Byte := BitVec.ofInt 8 (a + 128)

/-- The four chunk loads of a 64-bit value, chunk 3 first (30_encoding.md R93 a). -/
def ldfrm64 (v : Frame) : List Instr :=
  [.ldfrm 3 (v.extractLsb' 48 16), .ldfrm 2 (v.extractLsb' 32 16), .ldfrm 1 (v.extractLsb' 16 16),
   .ldfrm 0 (v.extractLsb' 0 16)]

/-- The words of a line whose operands are in range (30_encoding.md R92, R93). -/
def lineWords : AsmLine → List Word
  | .nop => [encode .nop]
  | .sample i q soi eoi => [encode (.sample (BitVec.ofNat 8 i) (BitVec.ofNat 8 q) soi eoi)]
  | .endInterval => [encode .endInterval]
  | .setspb w => [encode (.setspb (BitVec.ofNat 16 w))]
  | .capture => [encode .capture]
  | .select k => [encode (.select (BitVec.ofNat 16 k))]
  | .ldfrm c d => [encode (.ldfrm (BitVec.ofNat 2 c) (BitVec.ofNat 16 d))]
  | .clrstat => [encode .clrstat]
  | .word x => [BitVec.ofNat 32 x]
  | .ldfrm64 v => (ldfrm64 (BitVec.ofNat 64 v)).map encode
  | .samplen a b soi eoi => [encode (.sample (rawByte a) (rawByte b) soi eoi)]
  | .ldfrmstr s => (ldfrm64 (packBits (s.map (· == '1')))).map encode

/-- The assembler refuses a line with an operand out of range (30_encoding.md R92). -/
def assemble (l : AsmLine) : Option (List Word) := if l.wf then some (lineWords l) else none

/-- Blanks between the parts of a line. DESIGN CHOICE, log entry 12. -/
def isBlank (c : Char) : Bool := c == ' ' || c == '\t'

/-- A part of a line without the blanks around it. -/
def trimBlanks (l : List Char) : List Char := ((l.dropWhile isBlank).reverse.dropWhile isBlank).reverse

/-- Mnemonics are case-insensitive (30_encoding.md R92). -/
def upperChar (c : Char) : Char :=
  if 97 ≤ c.toNat ∧ c.toNat ≤ 122 then Char.ofNat (c.toNat - 32) else c

/-- The operands between commas (30_encoding.md R92). -/
def splitCommas : List Char → List (List Char)
  | [] => [[]]
  | c :: rest =>
    if c == ',' then [] :: splitCommas rest
    else match splitCommas rest with
      | [] => [[c]]
      | p :: ps => (c :: p) :: ps

/-- The value of a digit of the given base, 10 or 16, in either letter case. -/
def digitValue (base : Nat) (c : Char) : Option Nat :=
  let n := c.toNat
  let d := if 48 ≤ n ∧ n ≤ 57 then n - 48
    else if 97 ≤ n ∧ n ≤ 102 then n - 87
    else if 65 ≤ n ∧ n ≤ 70 then n - 55
    else 16
  if d < base then some d else none

/-- A string of digits with the value read so far. -/
def digitsValue (base : Nat) : Nat → List Char → Option Nat
  | acc, [] => some acc
  | acc, c :: rest => (digitValue base c).bind fun d => digitsValue base (acc * base + d) rest

/-- A number: decimal digits, or 0x and hex digits (30_encoding.md R92). -/
def parseNat (l : List Char) : Option Nat :=
  match l with
  | [] => none
  | ['0', 'x'] => none
  | '0' :: 'x' :: ds => digitsValue 16 0 ds
  | ds => digitsValue 10 0 ds

/-- A signed number, for SAMPLEN (30_encoding.md R93 b). The sign is a DESIGN CHOICE, log entry 12. -/
def parseInt (l : List Char) : Option Int :=
  match l with
  | '-' :: ds => (parseNat ds).map fun n => -(n : Int)
  | ds => (parseNat ds).map fun n => (n : Int)

/-- The flags of a SAMPLE or SAMPLEN suffix: none, .S, .E, .SE (30_encoding.md R92). -/
def suffixFlags (l : List Char) : Option (Bool × Bool) :=
  match l with
  | [] => some (false, false)
  | ['.', 'S'] => some (true, false)
  | ['.', 'E'] => some (false, true)
  | ['.', 'S', 'E'] => some (true, true)
  | _ => none

/-- SAMPLE or SAMPLEN by what follows the letters SAMPLE. -/
def parseSample (suffix : List Char) (a b : List Char) : Option AsmLine :=
  match suffix with
  | 'N' :: rest =>
    (suffixFlags rest).bind fun f => (parseInt a).bind fun x => (parseInt b).map fun y => .samplen x y f.1 f.2
  | rest =>
    (suffixFlags rest).bind fun f => (parseNat a).bind fun x => (parseNat b).map fun y => .sample x y f.1 f.2

/-- A line by its upper-case mnemonic and its operands (30_encoding.md R92, R93). -/
def parseCommand (mnemonic : List Char) (operands : List (List Char)) : Option AsmLine :=
  match mnemonic, operands with
  | ['N', 'O', 'P'], [] => some .nop
  | ['E', 'N', 'D'], [] => some .endInterval
  | ['C', 'A', 'P', 'T', 'U', 'R', 'E'], [] => some .capture
  | ['C', 'L', 'R', 'S', 'T', 'A', 'T'], [] => some .clrstat
  | ['S', 'E', 'T', 'S', 'P', 'B'], [w] => (parseNat w).map .setspb
  | ['S', 'E', 'L', 'E', 'C', 'T'], [k] => (parseNat k).map .select
  | ['.', 'W', 'O', 'R', 'D'], [x] => (parseNat x).map .word
  | ['L', 'D', 'F', 'R', 'M'], [c, d] => (parseNat c).bind fun x => (parseNat d).map fun y => .ldfrm x y
  | ['L', 'D', 'F', 'R', 'M', '6', '4'], [v] => (parseNat v).map .ldfrm64
  | ['L', 'D', 'F', 'R', 'M', 'S', 'T', 'R'], [t] => some (.ldfrmstr t)
  | 'S' :: 'A' :: 'M' :: 'P' :: 'L' :: 'E' :: suffix, [a, b] => parseSample suffix a b
  | _, _ => none

/-- One line of source text: a mnemonic, blanks, operands separated by commas (30_encoding.md R92). -/
def parseLine (line : List Char) : Option AsmLine :=
  let l := trimBlanks line
  let operands := trimBlanks (l.dropWhile fun c => !isBlank c)
  parseCommand ((l.takeWhile fun c => !isBlank c).map upperChar)
    (if operands.isEmpty then [] else (splitCommas operands).map trimBlanks)

end Sys2Proof.Machine
end

