-- ==== Sys2Proof/Machine/Driver.lean ====
section
/-! DEFINITION. What the host must do (70_reset_and_hazards.md R253, R254), as functions that give the host's commands and
actions. The block does not depend on them and enforces none of them. -/

namespace Sys2Proof.Machine

/-- Sample n of a file is I = byte[2n], Q = byte[2n+1]; an odd trailing byte is dropped (20_memory.md R64,
60_exceptions.md R226, 90_conflicts.md C2). -/
def samplePairs : List Byte → List (Byte × Byte)
  | i :: q :: rest => (i, q) :: samplePairs rest
  | _ => []

/-- An interval of the capture: its first sample, and its last one where the host marks it with EOI. -/
structure Interval where
  start : Nat
  stop : Option Nat
  deriving DecidableEq, Repr

/-- SOI on the first sample of each interval (42_bit_slicer.md R130). -/
def soiAt (ivs : List Interval) (n : Nat) : Bool := ivs.any fun v => v.start == n

/-- EOI on the last sample of each interval (42_bit_slicer.md R130). -/
def eoiAt (ivs : List Interval) (n : Nat) : Bool := ivs.any fun v => v.stop == some n

/-- One SAMPLE per pair, in file order, from sample n on, with the intervals' flags (42_bit_slicer.md R130,
70_reset_and_hazards.md R254). -/
def sampleCommands (ivs : List Interval) (n : Nat) : List (Byte × Byte) → List Instr
  | [] => []
  | p :: rest => .sample p.1 p.2 (soiAt ivs n) (eoiAt ivs n) :: sampleCommands ivs (n + 1) rest

/-- One capture file: CAPTURE, every sample of the file, and END when an interval's EOI was not marked
(70_reset_and_hazards.md R254). -/
def captureCommands (ivs : List Interval) (bytes : List Byte) : List Instr :=
  .capture :: sampleCommands ivs 0 (samplePairs bytes) ++
    if ivs.any fun v => v.stop.isNone then [.endInterval] else []

/-- The only initialisation the block needs (70_reset_and_hazards.md R253). -/
def bootActions (w : Half) : List HostAction := [.write (encode (.setspb w))]

/-- Reading entry k back: SELECT k, then FRM_HI, FRM_LO, SYNC, DEVID and CMDBAT (20_memory.md R69). -/
def readEntry (k : Half) : List HostAction :=
  [.write (encode (.select k)), .read 0x5, .read 0x6, .read 0x7, .read 0x8, .read 0x9]

/-- Reading back the whole set of n strings (20_memory.md R69, 70_reset_and_hazards.md R254). -/
def readAll (n : Nat) : List HostAction := (List.range n).flatMap fun k => readEntry (BitVec.ofNat 16 k)

end Sys2Proof.Machine
end

