-- ==== Sys2Proof/Machine/RealPhase.lean ====
section
/-! DEFINITION. The normative real-valued form of the phase path and the slicer (41_phase_unwrapper.md R102 to R105,
42_bit_slicer.md R131 to R138): exact real arithmetic. The machine runs the exact integer form (Machine/Phase.lean);
the statements relate the two. -/

namespace Sys2Proof.Machine

/-- PHASE(i, q) = atan2(q, i) in (-π, π], 0 at the zero vector (41_phase_unwrapper.md R102, which gives this form). -/
noncomputable def phase (a : IQ) : ℝ := Complex.arg ⟨(a.i : ℝ), (a.q : ℝ)⟩

/-- WRAP(x): one ±2π step when x lies outside (-π, π] (41_phase_unwrapper.md R103, 90_conflicts.md C6). -/
noncomputable def wrap (x : ℝ) : ℝ :=
  if Real.pi < x then x - 2 * Real.pi
  else if x ≤ -Real.pi then x + 2 * Real.pi
  else x

/-- DIFF(prev, v, haveprev) (41_phase_unwrapper.md R104). -/
noncomputable def realDiff (p v : IQ) (h : Bool) : ℝ := if h then wrap (phase v - phase p) else 0

/-- The real value of a phase difference held as a `PhaseStep` (41_phase_unwrapper.md R124). -/
noncomputable def PhaseStep.value (d : PhaseStep) : ℝ :=
  phase d.stop - phase d.start + 2 * Real.pi * (d.turns : ℝ)

/-- ACC as the real number of 10_state.md R36: PHASE(LAST) - PHASE(REF) + 2π·N while a window has samples, LAST being
PREV then (42_bit_slicer.md R140); 0 while the window has none. -/
noncomputable def State.accReal (s : State) : ℝ :=
  if s.sc = 0 then 0
  else phase s.prev - phase s.acc.ref + 2 * Real.pi * (s.acc.turns : ℝ)

/-- The block with ACC a real number (10_state.md R36). `rest` is everything else; its own `acc` field is unused and kept
at `PhaseAcc.zero`. -/
structure RealState where
  rest : State
  acc : ℝ

/-- The real-valued state a state stands for. -/
noncomputable def State.toReal (s : State) : RealState := ⟨{ s with acc := PhaseAcc.zero }, s.accReal⟩

/-- ACCUM(d) of 42_bit_slicer.md R133 and R134, on reals: the bit is 1 exactly for a strictly positive sum. -/
noncomputable def realAccum (d : ℝ) (r : RealState) : RealState :=
  if r.rest.sc + 1 = r.rest.spb.toNat then ⟨r.rest.dump (decide (0 < r.acc + d)), 0⟩
  else ⟨{ r.rest with sc := r.rest.sc + 1 }, r.acc + d⟩

/-- CLOSE() of 42_bit_slicer.md R135, on reals. -/
noncomputable def realClose (cfg : Config.Params) (r : RealState) : RealState := ⟨closeInterval cfg r.rest, 0⟩

/-- SLICE(SOI, EOI, d) of 42_bit_slicer.md R131, on reals. -/
noncomputable def realSlice (cfg : Config.Params) (soi eoi : Bool) (d : ℝ) (r : RealState) : RealState :=
  let accumClose := fun (x : RealState) => if eoi then realClose cfg (realAccum d x) else realAccum d x
  if soi then
    let x : RealState := if r.rest.ivopen then ⟨(r.rest.record .perr).abortInterval, 0⟩ else r
    if x.rest.spb = 0 then ⟨x.rest.record .perr, x.acc⟩ else accumClose ⟨x.rest.openInterval, 0⟩
  else if eoi && !r.rest.ivopen then ⟨r.rest.record .perr, r.acc⟩
  else if r.rest.ivopen then accumClose r
  else r

/-- SAMPLE of 41_phase_unwrapper.md R110, on reals. -/
noncomputable def realSample (cfg : Config.Params) (ib qb : Byte) (soi eoi : Bool) (r : RealState) : RealState :=
  realSlice cfg soi eoi (realDiff r.rest.prev (normalise ib qb) r.rest.haveprev) ⟨r.rest.notePrev (normalise ib qb), r.acc⟩

/-- The differences of successive capture samples after a state with PREV = p, HAVEPREV = h: FSKD's `diff[]`
(41_phase_unwrapper.md R104, 42_bit_slicer.md R138). -/
noncomputable def captureDiffs (p : IQ) (h : Bool) : List IQ → List ℝ
  | [] => []
  | v :: vs => realDiff p v h :: captureDiffs v true vs

/-- Bit j of an interval: 1 exactly when the sum of its window of w differences is positive (42_bit_slicer.md R134, R138). -/
noncomputable def windowBit (w : Nat) (ds : List ℝ) (j : Nat) : Bool :=
  decide (0 < ((ds.drop (j * w)).take w).sum)

/-- The bits of an interval in FSKD's array form: one for each whole window, the remainder discarded
(42_bit_slicer.md R137, R138). -/
noncomputable def windowBits (w : Nat) (ds : List ℝ) : List Bool :=
  (List.range (ds.length / w)).map (windowBit w ds)

end Sys2Proof.Machine
end

