-- ==== Sys2Proof/Safety.lean ====
section
/-! DEFINITION. What the claims call a legal state, and the relations between states they use. -/

namespace Sys2Proof.Machine

/-- Both components in -128..127 (10_state.md R34, 41_phase_unwrapper.md R101). -/
def isNormalised (a : IQ) : Prop := -128 ≤ a.i ∧ a.i ≤ 127 ∧ -128 ≤ a.q ∧ a.q ≤ 127

/-- The invariants of every reachable state: 10_state.md R44 (a) to (e), with what R34, R40 and R140 say of the ranges, and
the canonical form of the table's storage. -/
structure State.Inv (s : State) : Prop where
  /-- The table's storage has its canonical form. -/
  memWf : s.dt.wf = true
  /-- R44 (a). -/
  openSpb : s.ivopen = true → 1 ≤ s.spb.toNat
  /-- R44 (b), open. -/
  openSc : s.ivopen = true → s.sc < s.spb.toNat
  /-- R44 (b), closed: SC = 0. -/
  closedSc : s.ivopen = false → s.sc = 0
  /-- R44 (b), closed: ACC = 0; ACC is also 0 at the start of every window (R133). -/
  accZero : s.sc = 0 → s.acc = PhaseAcc.zero
  /-- R44 (c). -/
  nstrDepth : s.nstr.toNat ≤ Config.params.depth
  /-- R44 (d). -/
  distinct : ∀ j k, j < k → k < s.nstr.toNat → s.dt.read j ≠ s.dt.read k
  /-- R40: the valid entries have been written. -/
  listed : ∀ k, k < s.nstr.toNat → (s.dt.lookup k).isSome = true
  /-- R40: the table has DEDUP_DEPTH entries. -/
  indexDepth : ∀ e ∈ s.dt, e.1 < Config.params.depth
  /-- R44 (e). -/
  openPrev : s.haveprev = false → s.ivopen = false
  /-- R34, 93 U8: PREV is (0, 0) while HAVEPREV = 0. -/
  noPrev : s.haveprev = false → s.prev = IQ.zero
  /-- R34: each component of PREV is in -128..127. -/
  prevRange : isNormalised s.prev
  /-- R140: REF is a normalised sample. -/
  refRange : isNormalised s.acc.ref
  /-- R140: |N| is at most the number of samples in the window. -/
  turnsBound : s.acc.turns.natAbs ≤ s.sc

/-- The two states agree on everything but the four sticky bits. -/
def sameButErrors (s t : State) : Prop := s.clearErrors = t.clearErrors

/-- The number of sticky bits set in t and not in s. -/
def newErrors (s t : State) : Nat :=
  ([ErrorBit.cerr, .perr, .ovf, .serr].filter fun e => t.errorBit e && !s.errorBit e).length

/-- A state whose unique set is FSKD's: no string has been dropped (93_implementation_defined.md U12). -/
def State.complete (s : State) : Prop := s.ovf = false

/-- The SAMPLE commands of one interval that is not closed yet: SOI on the first sample only. -/
def intervalCommands : List (Byte × Byte) → List Instr
  | [] => []
  | p :: rest => .sample p.1 p.2 true false :: rest.map fun r => .sample r.1 r.2 false false

/-- The same commands with EOI on the last SAMPLE (42_bit_slicer.md R130). -/
def markEoi : List Instr → List Instr
  | [] => []
  | [.sample ib qb soi _] => [.sample ib qb soi true]
  | i :: rest => i :: markEoi rest

end Sys2Proof.Machine
end

