-- ==== Sys2Proof/Certificates/Slice0/Obligations.lean ====
section
/-! DEFINITION. The statements for the provers. Each names the rule of spec/ it formalises. -/

open Sys2Proof Sys2Proof.Machine

/-! ### Encoding -/

/-- Decoding the word of a well-formed command gives the command back, for every command and every operand
(30_encoding.md R81 to R88). -/
def Obligations.DecodeEncodeIsIdentity : Prop :=
  ∀ i : Instr, i.wf = true → decode (encode i) = .ok i

/-- A legal word is the word of the command it decodes to: each command has one word (30_encoding.md R87). -/
def Obligations.EncodeDecodeIsIdentity : Prop :=
  ∀ (w : Word) (i : Instr), decode w = .ok i → encode i = w

/-- R88: the decoder is the opcode map of R87 with the fields of R82 to R85, and a word is ILLEGAL exactly when its opcode is
0x8 or more, or a reserved bit of its format is 1. -/
def Obligations.DecodeIsTheOpcodeMap : Prop :=
  ∀ w : Word,
    (w &&& 0xFFFFFFFF = 0x00000000 → decode w = .ok .nop) ∧
    (w &&& 0xFFFC0000 = 0x10000000 →
      decode w = .ok (.sample (w.extractLsb' 0 8) (w.extractLsb' 8 8) (w.getLsbD 16) (w.getLsbD 17))) ∧
    (w &&& 0xFFFFFFFF = 0x20000000 → decode w = .ok .endInterval) ∧
    (w &&& 0xFFFF0000 = 0x30000000 → decode w = .ok (.setspb (w.extractLsb' 0 16))) ∧
    (w &&& 0xFFFFFFFF = 0x40000000 → decode w = .ok .capture) ∧
    (w &&& 0xFFFF0000 = 0x50000000 → decode w = .ok (.select (w.extractLsb' 0 16))) ∧
    (w &&& 0xFFFC0000 = 0x60000000 → decode w = .ok (.ldfrm (w.extractLsb' 16 2) (w.extractLsb' 0 16))) ∧
    (w &&& 0xFFFFFFFF = 0x70000000 → decode w = .ok .clrstat) ∧
    ((∃ why, decode w = .error why) ↔
      8 ≤ w.toNat / 2 ^ 28 ∨
      (w.toNat / 2 ^ 28 ∈ [0x0, 0x2, 0x4, 0x7] ∧ w.extractLsb' 0 28 ≠ 0) ∨
      (w.toNat / 2 ^ 28 ∈ [0x1, 0x6] ∧ w.extractLsb' 18 10 ≠ 0) ∨
      (w.toNat / 2 ^ 28 ∈ [0x3, 0x5] ∧ w.extractLsb' 16 12 ≠ 0))

/-- Words written out bit by bit from 30_encoding.md R81 to R85 decode to the commands they stand for, and words with a
reserved opcode or a reserved bit are rejected (a sanity statement). -/
def Obligations.WrittenOutWordsDecode : Prop :=
  decode 0b00000000000000000000000000000000 = .ok .nop ∧
  decode 0b00010000000000110000000111111111 = .ok (.sample 255 1 true true) ∧
  decode 0b00010000000000101000000000000001 = .ok (.sample 1 128 false true) ∧
  decode 0b00100000000000000000000000000000 = .ok .endInterval ∧
  decode 0b00110000000000000000000000001000 = .ok (.setspb 8) ∧
  decode 0b01000000000000000000000000000000 = .ok .capture ∧
  decode 0b01010000000000001000000000000001 = .ok (.select 0x8001) ∧
  decode 0b01100000000000101011111011101111 = .ok (.ldfrm 2 0xBEEF) ∧
  decode 0b01110000000000000000000000000000 = .ok .clrstat ∧
  decode 0b10000000000000000000000000000000 = .error .reservedOpcode ∧
  decode 0b00010000000001000000000000000000 = .error .reservedBits

/-- The words of every row of the syntax table of 30_encoding.md R92 and of every pseudo-instruction of R93, for a line whose
mnemonic and operands have been read, with the refusal of every operand out of range. -/
def Obligations.AssemblerWordsOfTheSyntaxTable : Prop :=
  assemble .nop = some [0x00000000#32] ∧ assemble .endInterval = some [0x20000000#32] ∧
  assemble .capture = some [0x40000000#32] ∧ assemble .clrstat = some [0x70000000#32] ∧
  (∀ (i q : Nat) (soi eoi : Bool), assemble (.sample i q soi eoi) =
    if i < 256 ∧ q < 256 then
      some [0x10000000#32 ||| (BitVec.ofNat 32 q <<< 8) ||| BitVec.ofNat 32 i |||
        (if soi then 0x00010000#32 else 0) ||| (if eoi then 0x00020000#32 else 0)]
    else none) ∧
  (∀ w : Nat, assemble (.setspb w) = if w < 65536 then some [0x30000000#32 ||| BitVec.ofNat 32 w] else none) ∧
  (∀ k : Nat, assemble (.select k) = if k < 65536 then some [0x50000000#32 ||| BitVec.ofNat 32 k] else none) ∧
  (∀ c d : Nat, assemble (.ldfrm c d) =
    if c < 4 ∧ d < 65536 then some [0x60000000#32 ||| (BitVec.ofNat 32 c <<< 16) ||| BitVec.ofNat 32 d] else none) ∧
  (∀ x : Nat, assemble (.word x) = if x < 2 ^ 32 then some [BitVec.ofNat 32 x] else none) ∧
  (∀ (a b : Int) (soi eoi : Bool), assemble (.samplen a b soi eoi) =
    if -128 ≤ a ∧ a ≤ 127 ∧ -128 ≤ b ∧ b ≤ 127 then
      assemble (.sample (a + 128).toNat (b + 128).toNat soi eoi)
    else none) ∧
  (∀ v : Nat, assemble (.ldfrm64 v) =
    if v < 2 ^ 64 then
      some [0x60030000#32 ||| BitVec.ofNat 32 (v / 2 ^ 48), 0x60020000#32 ||| BitVec.ofNat 32 (v / 2 ^ 32 % 2 ^ 16),
        0x60010000#32 ||| BitVec.ofNat 32 (v / 2 ^ 16 % 2 ^ 16), 0x60000000#32 ||| BitVec.ofNat 32 (v % 2 ^ 16)]
    else none) ∧
  (∀ t : List Char, t.length = 64 → (∀ c ∈ t, c = '0' ∨ c = '1') →
    ∃ v : Nat, v < 2 ^ 64 ∧ (∀ k : Nat, k < 64 → v.testBit (63 - k) = (t.getD k '0' == '1')) ∧
      assemble (.ldfrmstr t) = assemble (.ldfrm64 v)) ∧
  (∀ t : List Char, (t.length ≠ 64 ∨ ∃ c ∈ t, c ≠ '0' ∧ c ≠ '1') → assemble (.ldfrmstr t) = none)

/-- R67: a bit string of 64 characters is held with character k at bit 63 - k. -/
def Obligations.BitStringCharacterPlaces : Prop :=
  ∀ bits : List Bool, bits.length = 64 →
    ∀ k : Nat, k < 64 → (packBits bits).getLsbD (63 - k) = bits.getD k false

/-! ### The step -/

/-- When the host's next action writes a word that decodes to a command, the step is that command, performed on the state
with the action taken from the port, and nothing is added around it (20_memory.md R65). -/
def Obligations.StepRunsTheDecodedCommand : Prop :=
  ∀ (s : State) (w : Word) (rest : List HostAction) (i : Instr),
    s.port = .write w :: rest → decode w = .ok i →
      step s = exec i { s with port := rest }

/-- R203: a word that decodes to no command sets CERR and changes no other state (besides being taken from the port). -/
def Obligations.IllegalWordSetsCerrOnly : Prop :=
  ∀ (s : State) (w : Word) (rest : List HostAction) (why : Illegal),
    s.port = .write w :: rest → decode w = .error why →
      step s = .next { s with port := rest, cerr := true }

/-- R61: a read answers one whole word computed from the state, has no side effect on the block, and repeating it with no
command between gives the same word. -/
def Obligations.ReadHasNoSideEffect : Prop :=
  ∀ (s : State) (reg : BitVec 4) (rest : List HostAction), s.port = .read reg :: rest →
    step s = .next { s with port := rest, replies := readback Config.params reg s :: s.replies } ∧
    ∀ t, step s = .next t → readback Config.params reg t = readback Config.params reg s

/-- The reset input puts every state element of the block at its reset value (70_reset_and_hazards.md R250); the model's choice
of where it can occur is log entry 9. -/
def Obligations.ResetInputGivesTheResetState : Prop :=
  ∀ (s : State) (rest : List HostAction), s.port = .reset :: rest →
    ∃ t, step s = .next t ∧ t.spb = 0 ∧ t.prev = ⟨0, 0⟩ ∧ t.haveprev = false ∧ t.ivopen = false ∧
      t.accReal = 0 ∧ t.sc = 0 ∧ t.nsym = 0 ∧ t.shr = 0 ∧ t.nstr = 0 ∧ t.frm = 0 ∧ t.sel = 0 ∧
      t.cerr = false ∧ t.perr = false ∧ t.ovf = false ∧ t.serr = false ∧
      t.port = rest ∧ t.replies = s.replies

/-- No command, read or reset stops the block (60_exceptions.md R220): every step answers a next state, with exactly the host's
oldest action taken; with no action the block keeps its state (R235, log entry 3). -/
def Obligations.EveryStepCompletes : Prop :=
  ∀ s : State, (∃ t, step s = .next t ∧ t.port = s.port.tail) ∧ (s.port = [] → step s = .next s)

/-! ### The commands' results. Each equation is the command's whole effect: every field it does not name is unchanged.
ACC = 0 is written `⟨⟨0, 0⟩, 0⟩`, the one form in which this model holds it (the model's choice, log entry 4). -/

/-- NOP changes nothing (44_control.md R200). -/
def Obligations.NopChangesNothing : Prop := ∀ s : State, exec .nop s = .next s

/-- SETSPB of 0, or while an interval is open, sets CERR and leaves SPB; any other SETSPB writes SPB
(42_bit_slicer.md R150). -/
def Obligations.SetspbWritesOrRefuses : Prop :=
  ∀ (s : State) (w : Half),
    exec (.setspb w) s =
      .next (if w = 0 ∨ s.ivopen = true then { s with cerr := true } else { s with spb := w })

/-- CAPTURE clears the per-file state and OVF, and keeps SPB, FRM, SEL, the contents of DT and the other sticky bits
(44_control.md R201). -/
def Obligations.CaptureClearsTheFileState : Prop :=
  ∀ s : State, exec .capture s =
    .next { s with prev := ⟨0, 0⟩, haveprev := false, ivopen := false, acc := ⟨⟨0, 0⟩, 0⟩, sc := 0, nsym := 0,
                   shr := 0, nstr := 0, ovf := false }

/-- CLRSTAT clears the four sticky bits and nothing else (44_control.md R202). -/
def Obligations.ClrstatClearsTheStickyBits : Prop :=
  ∀ s : State, exec .clrstat s = .next { s with cerr := false, perr := false, ovf := false, serr := false }

/-- SELECT of a valid entry loads FRM from it and notes the index; of any other index it sets SERR and leaves FRM and SEL
(43_frame_parser.md R180). -/
def Obligations.SelectLoadsAValidEntry : Prop :=
  ∀ (s : State) (k : Half),
    (k.toNat < s.nstr.toNat →
      exec (.select k) s = .next { s with frm := s.dt.read k.toNat, sel := k }) ∧
    (s.nstr.toNat ≤ k.toNat → exec (.select k) s = .next { s with serr := true })

/-- LDFRM writes bits 16c+15 to 16c of FRM and leaves its other bits, and nothing else changes (43_frame_parser.md R181). -/
def Obligations.LdfrmWritesOneChunk : Prop :=
  ∀ (s : State) (c : BitVec 2) (d : Half),
    ∃ f : Frame, exec (.ldfrm c d) s = .next { s with frm := f } ∧
      ∀ j : Nat, j < 64 → f.getLsbD j =
        if 16 * c.toNat ≤ j ∧ j ≤ 16 * c.toNat + 15 then d.getLsbD (j - 16 * c.toNat) else s.frm.getLsbD j

/-- The four loads of LDFRM64 v leave FRM = v and change nothing else (30_encoding.md R93 a). -/
def Obligations.Ldfrm64LoadsTheWholeFrame : Prop :=
  ∀ (s : State) (v : Frame), execAll (ldfrm64 v) s = .next { s with frm := v }

/-- END with no interval open does nothing (42_bit_slicer.md R151). -/
def Obligations.EndWithoutIntervalDoesNothing : Prop :=
  ∀ s : State, s.ivopen = false → exec .endInterval s = .next s

/-- END of an interval whose length is not 64 symbols discards it silently; NSYM and SHR stay (42_bit_slicer.md R135, R151). -/
def Obligations.EndDiscardsOtherLengths : Prop :=
  ∀ s : State, s.ivopen = true → s.nsym.toNat ≠ 64 →
    exec .endInterval s = .next { s with ivopen := false, acc := ⟨⟨0, 0⟩, 0⟩, sc := 0 }

/-- END of a 64-symbol interval with a new string and room in the table writes it at DT[NSTR], counts it, and leaves every other
entry as it was (42_bit_slicer.md R135, R145). -/
def Obligations.EndInsertsANewString : Prop :=
  ∀ s : State, s.ivopen = true → s.nsym.toNat = 64 → (∀ k, k < s.nstr.toNat → s.dt.read k ≠ s.shr) →
    s.nstr.toNat < Config.params.depth →
    ∃ m : Memory,
      exec .endInterval s =
        .next { s with dt := m, nstr := s.nstr + 1, ivopen := false, acc := ⟨⟨0, 0⟩, 0⟩, sc := 0 } ∧
      m.read s.nstr.toNat = s.shr ∧ ∀ k, k ≠ s.nstr.toNat → m.read k = s.dt.read k

/-- END of a 64-symbol interval whose string is already in the set ends it and changes neither table nor flag
(42_bit_slicer.md R135, R145). -/
def Obligations.EndKeepsAKnownString : Prop :=
  ∀ s : State, s.ivopen = true → s.nsym.toNat = 64 → (∃ k, k < s.nstr.toNat ∧ s.dt.read k = s.shr) →
    exec .endInterval s = .next { s with ivopen := false, acc := ⟨⟨0, 0⟩, 0⟩, sc := 0 }

/-- END of a 64-symbol interval with a new string and a full table drops the string and sets OVF (42_bit_slicer.md R145). -/
def Obligations.EndDropsANewStringWhenFull : Prop :=
  ∀ s : State, s.ivopen = true → s.nsym.toNat = 64 → (∀ k, k < s.nstr.toNat → s.dt.read k ≠ s.shr) →
    Config.params.depth ≤ s.nstr.toNat →
    exec .endInterval s = .next { s with ovf := true, ivopen := false, acc := ⟨⟨0, 0⟩, 0⟩, sc := 0 }

/-- SAMPLE without flags outside every interval writes PREV and HAVEPREV only (41_phase_unwrapper.md R101, R110). -/
def Obligations.SampleOutsideAnInterval : Prop :=
  ∀ (s : State) (ib qb : Byte), s.ivopen = false →
    exec (.sample ib qb false false) s =
      .next { s with prev := ⟨(ib.toNat : Int) - 128, (qb.toNat : Int) - 128⟩, haveprev := true }

/-- SAMPLE with EOI alone and no interval open sets PERR; the phase path has run (60_exceptions.md R222 c). -/
def Obligations.SampleLoneEoiSetsPerr : Prop :=
  ∀ (s : State) (ib qb : Byte), s.ivopen = false →
    exec (.sample ib qb false true) s =
      .next { s with prev := ⟨(ib.toNat : Int) - 128, (qb.toNat : Int) - 128⟩, haveprev := true, perr := true }

/-- SAMPLE with SOI while SPB = 0 sets PERR, ignores EOI and opens nothing; an interval that was open (in no reachable state) is
aborted (42_bit_slicer.md R131, 60_exceptions.md R222 b). -/
def Obligations.SampleSoiWithoutSpbSetsPerr : Prop :=
  ∀ (s : State) (ib qb : Byte) (eoi : Bool), s.spb = 0 →
    exec (.sample ib qb true eoi) s =
      .next { s with prev := ⟨(ib.toNat : Int) - 128, (qb.toNat : Int) - 128⟩, haveprev := true, perr := true,
                     ivopen := false, acc := if s.ivopen then ⟨⟨0, 0⟩, 0⟩ else s.acc,
                     sc := if s.ivopen then 0 else s.sc }

/-- SAMPLE with SOI and SPB set opens an interval on itself: it is the same SAMPLE without SOI in the opened state, with PERR when
an interval was already open, which is aborted without a string (42_bit_slicer.md R131, R132, R136). -/
def Obligations.SampleSoiOpensAnInterval : Prop :=
  ∀ (s : State) (ib qb : Byte) (eoi : Bool), s.spb ≠ 0 →
    exec (.sample ib qb true eoi) s =
      exec (.sample ib qb false eoi)
        { s with ivopen := true, acc := ⟨⟨0, 0⟩, 0⟩, sc := 0, nsym := 0, shr := 0, perr := s.perr || s.ivopen }

/-- SAMPLE inside a window adds its difference to the sum and counts the sample, in the exact integer form
(42_bit_slicer.md R133, R140). -/
def Obligations.SampleAccumulates : Prop :=
  ∀ (s : State) (ib qb : Byte), s.ivopen = true → s.sc + 1 ≠ s.spb.toNat →
    let v : IQ := ⟨(ib.toNat : Int) - 128, (qb.toNat : Int) - 128⟩
    exec (.sample ib qb false false) s =
      .next { s with
        prev := v, haveprev := true, sc := s.sc + 1
        acc := ⟨if s.sc = 0 then (if s.haveprev then s.prev else v) else s.acc.ref,
                (if s.sc = 0 then 0 else s.acc.turns) + (if s.haveprev then wdir s.prev v else 0)⟩ }

/-- SAMPLE that fills a window decides its bit, shifts it into SHR at bit 0, counts it in NSYM (saturating) and clears ACC and SC,
in the exact integer form (42_bit_slicer.md R133, R140, R141). -/
def Obligations.SampleDumpsABit : Prop :=
  ∀ (s : State) (ib qb : Byte), s.ivopen = true → s.sc + 1 = s.spb.toNat →
    let v : IQ := ⟨(ib.toNat : Int) - 128, (qb.toNat : Int) - 128⟩
    let ref : IQ := if s.sc = 0 then (if s.haveprev then s.prev else v) else s.acc.ref
    let n : Int := (if s.sc = 0 then 0 else s.acc.turns) + (if s.haveprev then wdir s.prev v else 0)
    exec (.sample ib qb false false) s =
      .next { s with
        prev := v, haveprev := true, acc := ⟨⟨0, 0⟩, 0⟩, sc := 0
        shr := (s.shr <<< 1) ||| (if 1 ≤ n ∨ (n = 0 ∧ phLt ref v = true) then 1 else 0)
        nsym := if s.nsym = 0xFFFF then 0xFFFF else s.nsym + 1 }

/-- SAMPLE with EOI inside an interval is the same SAMPLE without EOI followed by END (42_bit_slicer.md R131, R151). -/
def Obligations.SampleEoiClosesLikeEnd : Prop :=
  ∀ (s : State) (ib qb : Byte), s.ivopen = true →
    exec (.sample ib qb false true) s = execAll [.sample ib qb false false, .endInterval] s

/-! ### The exact integer form against the normative real form -/

/-- R102: PHASE lies in (-π, π], is the angle of the point, is π on the negative real axis, and 0 at the zero vector. -/
def Obligations.PhaseIsTheAngleOfThePoint : Prop :=
  (∀ a : IQ, -Real.pi < phase a ∧ phase a ≤ Real.pi) ∧
  (∀ a : IQ, a ≠ ⟨0, 0⟩ →
    Real.cos (phase a) = (a.i : ℝ) / Real.sqrt ((a.i : ℝ) ^ 2 + (a.q : ℝ) ^ 2) ∧
    Real.sin (phase a) = (a.q : ℝ) / Real.sqrt ((a.i : ℝ) ^ 2 + (a.q : ℝ) ^ 2)) ∧
  (∀ i : Int, i < 0 → phase ⟨i, 0⟩ = Real.pi) ∧
  phase ⟨0, 0⟩ = 0

/-- R103: WRAP applies at most one ±2π step and lands in (-π, π]; with R104, every difference lies there. -/
def Obligations.WrapLandsInRange : Prop :=
  (∀ x : ℝ, -(2 * Real.pi) < x → x < 2 * Real.pi →
    (Real.pi < x → wrap x = x - 2 * Real.pi) ∧
    (x ≤ -Real.pi → wrap x = x + 2 * Real.pi) ∧
    (-Real.pi < x → x ≤ Real.pi → wrap x = x) ∧
    -Real.pi < wrap x ∧ wrap x ≤ Real.pi) ∧
  ∀ (p v : IQ) (h : Bool), -Real.pi < realDiff p v h ∧ realDiff p v h ≤ Real.pi

/-- R121: PH_LT, by class and cross product, and PH_EQ are the order and the equality of phases, and CROSS is bounded on
normalised points. -/
def Obligations.PhLtIsTheOrderOfPhases : Prop :=
  (∀ a b : IQ,
    (phLt a b = true ↔ phaseClass a < phaseClass b ∨
      (phaseClass a = phaseClass b ∧ (phaseClass a = 0 ∨ phaseClass a = 2) ∧ 0 < a.i * b.q - a.q * b.i)) ∧
    (phLt a b = true ↔ phase a < phase b) ∧
    (phEq a b = true ↔ phLt a b = false ∧ phLt b a = false) ∧
    (phEq a b = true ↔ phase a = phase b)) ∧
  (∀ a b : IQ, isNormalised a → isNormalised b →
    (cross a b).natAbs ≤ 32768 ∧ (cross (neg a) b).natAbs ≤ 32768 ∧ (cross a (neg b)).natAbs ≤ 32768)

/-- R122, R123: PH_POS is the sign of the phase, and NEG turns a positive phase back by π. -/
def Obligations.NegTurnsBackByPi : Prop :=
  ∀ a : IQ,
    (phPos a = true ↔ phaseClass a = 2 ∨ phaseClass a = 3) ∧ (phPos a = true ↔ 0 < phase a) ∧
    neg a = ⟨-a.i, -a.q⟩ ∧ (phPos a = true → phase (neg a) = phase a - Real.pi)

/-- R124: WDIR is the whole turn that WRAP adds, and its two nonzero cases never hold together. -/
def Obligations.WdirIsTheWrapCorrection : Prop :=
  ∀ p v : IQ,
    realDiff p v true = phase v - phase p + 2 * Real.pi * (wdir p v : ℝ) ∧
    (wdir p v = -1 ↔ Real.pi < phase v - phase p) ∧
    (wdir p v = -1 ↔ phPos v = true ∧ phLt p (neg v) = true) ∧
    (wdir p v = 1 ↔ phase v - phase p ≤ -Real.pi) ∧
    (wdir p v = 1 ↔ phPos p = true ∧ phLt (neg p) v = false) ∧
    (wdir p v = -1 ∨ wdir p v = 0 ∨ wdir p v = 1) ∧
    ¬ ((phPos v = true ∧ phLt p (neg v) = true) ∧ (phPos p = true ∧ phLt (neg p) v = false))

/-- R125: the sign of one difference from the cross and the dot product, a zero vector replaced by (1, 0); `diffSign` is that
sign. -/
def Obligations.DiffSignFromCrossAndDot : Prop :=
  ∀ p v : IQ,
    let p' : IQ := if p = ⟨0, 0⟩ then ⟨1, 0⟩ else p
    let v' : IQ := if v = ⟨0, 0⟩ then ⟨1, 0⟩ else v
    let c : Int := p'.i * v'.q - p'.q * v'.i
    let d : Int := p'.i * v'.i + p'.q * v'.q
    (0 < realDiff p v true ↔ 0 < c ∨ (c = 0 ∧ d < 0)) ∧
    (realDiff p v true = 0 ↔ c = 0 ∧ 0 < d) ∧
    (realDiff p v true < 0 ↔ c < 0) ∧
    (diffSign p v = 1 ↔ 0 < realDiff p v true) ∧
    (diffSign p v = 0 ↔ realDiff p v true = 0) ∧
    (diffSign p v = -1 ↔ realDiff p v true < 0)

/-- R141: in the integer form the sum is positive exactly when N ≥ 1, or N = 0 and PH_LT(REF, LAST); it is 0 exactly when N = 0 and
PH_EQ(REF, LAST). -/
def Obligations.IntegerFormGivesTheSignOfTheSum : Prop :=
  ∀ (a : PhaseAcc) (last : IQ),
    (a.isPos last = true ↔ 1 ≤ a.turns ∨ (a.turns = 0 ∧ phLt a.ref last = true)) ∧
    (a.isPos last = true ↔ 0 < phase last - phase a.ref + 2 * Real.pi * (a.turns : ℝ)) ∧
    ((a.turns = 0 ∧ phEq a.ref last = true) ↔ phase last - phase a.ref + 2 * Real.pi * (a.turns : ℝ) = 0)

/-- R134: the bit that fills a window is 1 exactly when the real sum of the window is strictly positive. -/
def Obligations.BitIsOneIffSumIsPositive : Prop :=
  ∀ (s : State) (ib qb : Byte), s.Inv → s.ivopen = true → s.sc + 1 = s.spb.toNat →
    ∃ t, exec (.sample ib qb false false) s = .next t ∧
      (0 < s.accReal + realDiff s.prev (normalise ib qb) s.haveprev → t.shr = (s.shr <<< 1) ||| 1) ∧
      (s.accReal + realDiff s.prev (normalise ib qb) s.haveprev ≤ 0 → t.shr = s.shr <<< 1)

/-- SAMPLE in the integer form refines SAMPLE on exact reals, for every combination of flags (41_phase_unwrapper.md R105, R110,
42_bit_slicer.md R131 to R136). -/
def Obligations.SampleRefinesTheRealSlicer : Prop :=
  ∀ (s : State) (ib qb : Byte) (soi eoi : Bool), s.Inv →
    ∃ t, exec (.sample ib qb soi eoi) s = .next t ∧
      t.toReal = realSample Config.params ib qb soi eoi s.toReal

/-- The bits of an interval are the signs of its window sums in FSKD's array form, the difference of the first sample being taken
against the sample before the interval (42_bit_slicer.md R138, 41_phase_unwrapper.md R100). -/
def Obligations.IntervalBitsAreTheSignsOfWindowSums : Prop :=
  ∀ (s : State) (xs : List (Byte × Byte)), s.spb ≠ 0 → xs ≠ [] →
    ∃ t, execAll (intervalCommands xs) s = .next t ∧
      t.shr = packBits (windowBits s.spb.toNat
        (captureDiffs s.prev s.haveprev (xs.map fun x => normalise x.1 x.2)))

/-- R137: an interval of L samples, closed by END or by EOI on its last sample, has min(floor(L / SPB), 0xFFFF) symbols, before its
close and after it, and the L mod SPB remainder samples are in no bit: SHR is decided by the samples before them. -/
def Obligations.SymbolCountOfAnInterval : Prop :=
  ∀ (s : State) (xs : List (Byte × Byte)), s.spb ≠ 0 → xs ≠ [] →
    ∃ t u, execAll (intervalCommands xs) s = .next t ∧ exec .endInterval t = .next u ∧
      execAll (markEoi (intervalCommands xs)) s = .next u ∧
      t.ivopen = true ∧ t.sc = xs.length % s.spb.toNat ∧
      t.nsym.toNat = min (xs.length / s.spb.toNat) 0xFFFF ∧
      t.shr = packBits (windowBits s.spb.toNat (captureDiffs s.prev s.haveprev
        ((xs.take (xs.length - xs.length % s.spb.toNat)).map fun x => normalise x.1 x.2))) ∧
      u.nsym = t.nsym ∧ u.shr = t.shr ∧ u.ivopen = false ∧ u.sc = 0

/-- R139: the bit string of an interval is a function of its samples, the sample before it and SPB alone; so are the counts and the
real sum ACC. -/
def Obligations.BitStringDependsOnSamplesAndSpbOnly : Prop :=
  ∀ (s s' t t' : State) (xs : List (Byte × Byte)), s.spb ≠ 0 → xs ≠ [] →
    s.spb = s'.spb → s.prev = s'.prev → s.haveprev = s'.haveprev →
    execAll (intervalCommands xs) s = .next t → execAll (intervalCommands xs) s' = .next t' →
      t.shr = t'.shr ∧ t.nsym = t'.nsym ∧ t.sc = t'.sc ∧ t.accReal = t'.accReal

/-! ### The parser and the readback registers -/

/-- R182: loading a frame built from field values and reading the parsed registers returns the values exactly. -/
def Obligations.ParserRoundTrip : Prop :=
  ∀ (s : State) (pre : BitVec 24) (sync : BitVec 16) (devid : BitVec 20) (cmd : BitVec 3) (bat : BitVec 1),
    ∃ t, execAll (ldfrm64 (pre ++ sync ++ devid ++ cmd ++ bat)) s = .next t ∧
      (readback Config.params 0x7 t).extractLsb' 0 16 = sync ∧
      (readback Config.params 0x8 t).extractLsb' 0 20 = devid ∧
      (readback Config.params 0x9 t).extractLsb' 0 3 = cmd ∧
      (readback Config.params 0x9 t).extractLsb' 3 1 = bat

/-- R174: two frames that differ only in the preamble FRM[63:40] read the same in every register but FRM_HI, and parse to the same
record. -/
def Obligations.PreambleIsDiscarded : Prop :=
  ∀ (s : State) (f g : Frame), f.extractLsb' 0 40 = g.extractLsb' 0 40 →
    (∀ reg : BitVec 4, reg ≠ 0x5 →
      readback Config.params reg { s with frm := f } = readback Config.params reg { s with frm := g }) ∧
    parseFrame Config.params f = parseFrame Config.params g

/-- CMDBAT holds the raw codes and the enums of the closed lookups; the enum value 3 is never produced, nor BAT 0
(10_state.md R50, 43_frame_parser.md R177, R178). -/
def Obligations.CmdbatRegister : Prop :=
  ∀ s : State,
    let r := readback Config.params 0x9 s
    r.extractLsb' 0 3 = s.frm.extractLsb' 1 3 ∧
    r.getLsbD 3 = s.frm.getLsbD 0 ∧
    r.extractLsb' 4 2 =
      (if s.frm.extractLsb' 1 3 = 0b001#3 then 1
       else if s.frm.extractLsb' 1 3 = Config.params.closeCode.bits then 2 else 0) ∧
    r.extractLsb' 6 2 = (if s.frm.getLsbD 0 then 1 else 2) ∧
    r.extractLsb' 8 24 = 0 ∧
    readback Config.params 0x9 State.reset = (if Config.params.closeCode.bits = 0b000 then 0xA0 else 0x80) ∧
    Config.params.closeCode.bits ≠ 0b001 ∧ Config.params.closeCode.bits ≠ 0b111

/-- SYNC holds the sync field of FRM and, at bit 16, whether it equals SYNC_WORD (10_state.md R48, 43_frame_parser.md R172). -/
def Obligations.SyncRegister : Prop :=
  ∀ s : State,
    let r := readback Config.params 0x7 s
    r.extractLsb' 0 16 = s.frm.extractLsb' 24 16 ∧
    (r.getLsbD 16 = true ↔ s.frm.extractLsb' 24 16 = Config.params.syncWord) ∧
    r.extractLsb' 17 15 = 0 ∧
    readback Config.params 0x7 State.reset = (if Config.params.syncWord = 0 then 0x00010000 else 0)

/-- R45: the bits of STATUS. -/
def Obligations.StatusRegister : Prop :=
  (∀ (s : State) (j : Nat), j < 32 →
    (readback Config.params 0x0 s).getLsbD j =
      if j = 0 then s.ivopen else if j = 1 then s.haveprev
      else if j = 8 then s.cerr else if j = 9 then s.perr else if j = 10 then s.ovf else if j = 11 then s.serr
      else false) ∧
  readback Config.params 0x0 State.reset = 0

/-- R46, R47, R49, R51: the remaining readback registers. -/
def Obligations.CounterFrameAndConfigurationRegisters : Prop :=
  ∀ s : State,
    readback Config.params 0x1 s = BitVec.ofNat 32 s.spb.toNat ∧
    readback Config.params 0x2 s = BitVec.ofNat 32 s.nstr.toNat ∧
    readback Config.params 0x3 s = BitVec.ofNat 32 s.nsym.toNat ∧
    readback Config.params 0x4 s = BitVec.ofNat 32 s.sel.toNat ∧
    (readback Config.params 0x5 s ++ readback Config.params 0x6 s : Frame) = s.frm ∧
    readback Config.params 0x8 s = BitVec.ofNat 32 (s.frm.extractLsb' 4 20).toNat ∧
    readback Config.params 0xA s =
      BitVec.ofNat 32 (Config.params.closeCode.bits.toNat * 65536 + Config.params.depth) ∧
    readback Config.params 0xB s = BitVec.ofNat 32 Config.params.syncWord.toNat ∧
    (∀ reg : BitVec 4, 12 ≤ reg.toNat → readback Config.params reg s = 0) ∧
    (∀ reg : BitVec 4, (1 ≤ reg.toNat ∧ reg.toNat ≤ 6) ∨ reg = 0x8 → readback Config.params reg State.reset = 0) ∧
    1 ≤ Config.params.depth ∧ Config.params.depth ≤ 65535

/-- R252: the readback values right after reset. -/
def Obligations.ReadbackAfterReset : Prop :=
  (∀ reg : BitVec 4, reg.toNat ≤ 6 ∨ reg = 0x8 → readback Config.params reg State.reset = 0) ∧
  readback Config.params 0x7 State.reset = (if Config.params.syncWord = 0 then 0x00010000 else 0) ∧
  readback Config.params 0x9 State.reset = (if Config.params.closeCode.bits = 0b000 then 0xA0 else 0x80) ∧
  readback Config.params 0xA State.reset =
    (Config.params.closeCode.bits.setWidth 32 <<< 16) ||| BitVec.ofNat 32 Config.params.depth ∧
  readback Config.params 0xB State.reset = Config.params.syncWord.setWidth 32 ∧
  ∀ reg : BitVec 4, 12 ≤ reg.toNat → readback Config.params reg State.reset = 0

/-- R176: the device-id string is 0x and five hex digits in the letter case of HEX_CASE, whose value is DEVID. -/
def Obligations.DeviceIdStringIsFiveHexDigits : Prop :=
  ∀ (cfg : Config.Params) (f : Frame),
    ∃ ds : List Char, deviceIdString cfg f = '0' :: 'x' :: ds ∧ ds.length = 5 ∧
      digitsValue 16 0 ds = some (f.extractLsb' 4 20).toNat ∧
      ∀ c ∈ ds, (48 ≤ c.toNat ∧ c.toNat ≤ 57) ∨
        (cfg.hexCase = .lower ∧ 97 ≤ c.toNat ∧ c.toNat ≤ 102) ∨
        (cfg.hexCase = .upper ∧ 65 ≤ c.toNat ∧ c.toNat ≤ 70)

/-- The host reads entry k of the unique set back with SELECT k and five reads, in order: FRM_HI and FRM_LO are the entry's halves,
and SYNC, DEVID and CMDBAT are its parsed registers (20_memory.md R65, R69). -/
def Obligations.ReadoutOfOneEntry : Prop :=
  ∀ (s : State) (k : Half) (rest : List HostAction), k.toNat < s.nstr.toNat → s.port = readEntry k ++ rest →
    let f := s.dt.read k.toNat
    Host.Core.run Sys2Proof.core 6 s =
      .next { s with
        frm := f, sel := k, port := rest
        replies := cmdbatReg Config.params f :: devidReg f :: syncReg Config.params f ::
          f.extractLsb' 0 32 :: f.extractLsb' 32 32 :: s.replies }

/-! ### Rules of the whole machine -/

/-- R53, R44: the invariant holds after reset. -/
def Obligations.InvariantHoldsAtReset : Prop := State.reset.Inv

/-- The invariants of 10_state.md R44, with the ranges of R34, R40 and R140 and the canonical form of the table, are kept by every
step from every state that has them. -/
def Obligations.EveryStepKeepsTheInvariant : Prop :=
  ∀ s t : State, s.Inv → step s = .next t → t.Inv

/-- What a command cannot touch: SPB is written by SETSPB only (10_state.md R33); FRM and SEL by SELECT and LDFRM only (R41, R42);
PREV and HAVEPREV by SAMPLE and CAPTURE only (R34); DT by a close only, and then only at index NSTR (20_memory.md R63); the host's
side of the ports by no command. -/
def Obligations.WhatACommandCannotTouch : Prop :=
  ∀ (i : Instr) (s t : State), exec i s = .next t →
    ((∀ w, i ≠ .setspb w) → t.spb = s.spb) ∧
    ((∀ k, i ≠ .select k) → t.sel = s.sel ∧ ((∀ c d, i ≠ .ldfrm c d) → t.frm = s.frm)) ∧
    ((∀ ib qb soi eoi, i ≠ .sample ib qb soi eoi) → i ≠ .capture → t.prev = s.prev ∧ t.haveprev = s.haveprev) ∧
    ((∀ ib qb soi, i ≠ .sample ib qb soi true) → i ≠ .endInterval → t.dt = s.dt) ∧
    (∀ k, k ≠ s.nstr.toNat → t.dt.read k = s.dt.read k) ∧
    t.port = s.port ∧ t.replies = s.replies

/-- R221: CERR is set by, and only by, an ILLEGAL word, SETSPB of 0, and SETSPB while an interval is open; such a word changes
no other state. -/
def Obligations.CerrCauses : Prop :=
  ∀ (s : State) (w : Word), s.cerr = false →
    ∃ t, performWord w s = .next t ∧
      (t.cerr = true ↔
        (∃ why, decode w = .error why) ∨ ∃ n, decode w = .ok (.setspb n) ∧ (n = 0 ∨ s.ivopen = true)) ∧
      (t.cerr = true → t = { s with cerr := true })

/-- PERR is set by, and only by, a SAMPLE that breaks framing (60_exceptions.md R222). -/
def Obligations.PerrCauses : Prop :=
  ∀ (s : State) (w : Word), s.perr = false →
    ∃ t, performWord w s = .next t ∧
      (t.perr = true ↔
        ∃ ib qb soi eoi, decode w = .ok (.sample ib qb soi eoi) ∧
          ((soi = true ∧ s.ivopen = true) ∨ (soi = true ∧ s.spb = 0) ∨
            (soi = false ∧ eoi = true ∧ s.ivopen = false)))

/-- R223: OVF is set by, and only by, a close (SAMPLE with EOI, or END) of a 64-symbol interval whose string is not in the set while
the table is full; the table is then unchanged. -/
def Obligations.OvfCauses : Prop :=
  ∀ (s : State) (w : Word), s.Inv → s.ovf = false →
    ∃ t, performWord w s = .next t ∧
      (t.ovf = true ↔
        (decode w = .ok .endInterval ∨ ∃ ib qb, decode w = .ok (.sample ib qb false true)) ∧ s.ivopen = true ∧
          t.nsym.toNat = 64 ∧ (∀ k, k < s.nstr.toNat → s.dt.read k ≠ t.shr) ∧
          s.nstr.toNat = Config.params.depth) ∧
      (t.ovf = true → t.dt = s.dt ∧ t.nstr = s.nstr)

/-- R224: SERR is set by, and only by, SELECT k with k not below NSTR; FRM and SEL are then unchanged. -/
def Obligations.SerrCauses : Prop :=
  ∀ (s : State) (w : Word), s.serr = false →
    ∃ t, performWord w s = .next t ∧
      (t.serr = true ↔ ∃ k, decode w = .ok (.select k) ∧ s.nstr.toNat ≤ k.toNat) ∧
      (t.serr = true → t.frm = s.frm ∧ t.sel = s.sel)

/-- One command word sets at most one sticky bit, and clears none but by CLRSTAT (all) and CAPTURE (OVF) (60_exceptions.md R227). -/
def Obligations.OneErrorPerCommandAndErrorsAreSticky : Prop :=
  ∀ (s t : State) (w : Word), s.Inv → performWord w s = .next t →
    newErrors s t ≤ 1 ∧
    ∀ e : ErrorBit, s.errorBit e = true → t.errorBit e = false →
      decode w = .ok .clrstat ∨ (decode w = .ok .capture ∧ e = .ovf)

/-- No command reads a sticky bit: states that differ only in them stay so under every command, and each sticky bit after the
command is decided by the same bit before it and the rest of the state, not by another sticky bit (10_state.md R43). -/
def Obligations.StickyBitsNeverChangeACommand : Prop :=
  ∀ (i : Instr) (s s' t t' : State), sameButErrors s s' → exec i s = .next t → exec i s' = .next t' →
    sameButErrors t t' ∧ ∀ e : ErrorBit, s.errorBit e = s'.errorBit e → t.errorBit e = t'.errorBit e
end

