-- ==== Sys2Proof/Laws/Memory.lean ====
section
/-! SUPPORT. The dedup table's storage: read after write, and the canonical form kept by the one operation that writes. -/

namespace Sys2Proof.Machine

@[simp] theorem Memory.lookup_write_same (k : Nat) (v : Frame) (m : Memory) :
    (m.write k v).lookup k = some v := by
  induction m with
  | nil => simp [Memory.write, Memory.lookup]
  | cons e m ih =>
    obtain ⟨j, u⟩ := e
    simp only [Memory.write]
    split
    · simp [Memory.lookup]
    · split
      · simp [Memory.lookup]
      · rename_i h
        simp [Memory.lookup, Ne.symm h, ih]

theorem Memory.lookup_write_other {j k : Nat} (v : Frame) (m : Memory) (h : j ≠ k) :
    (m.write k v).lookup j = m.lookup j := by
  induction m with
  | nil => simp [Memory.write, Memory.lookup, Ne.symm h]
  | cons e m ih =>
    obtain ⟨i, u⟩ := e
    simp only [Memory.write]
    split
    · simp [Memory.lookup, Ne.symm h]
    · split
      · rename_i hk
        subst hk
        simp [Memory.lookup, Ne.symm h]
      · simp only [Memory.lookup, ih]

@[simp] theorem Memory.read_write_same (k : Nat) (v : Frame) (m : Memory) :
    (m.write k v).read k = v := by
  simp [Memory.read]

theorem Memory.read_write_other {j k : Nat} (v : Frame) (m : Memory) (h : j ≠ k) :
    (m.write k v).read j = m.read j := by
  simp [Memory.read, Memory.lookup_write_other v m h]

/-- The canonical form, entry by entry: the first index is below every later one. -/
theorem Memory.wf_cons_iff (e : Nat × Frame) (m : Memory) :
    Memory.wf (e :: m) = true ↔ (∀ f ∈ m, e.1 < f.1) ∧ m.wf = true := by
  induction m generalizing e with
  | nil => simp [Memory.wf]
  | cons f m ih =>
    have step : Memory.wf (e :: f :: m) = true ↔ e.1 < f.1 ∧ Memory.wf (f :: m) = true := by
      simp [Memory.wf]
    rw [step]
    constructor
    · rintro ⟨h, hw⟩
      refine ⟨?_, hw⟩
      intro g hg
      rcases List.mem_cons.mp hg with rfl | hg
      · exact h
      · exact lt_trans h (((ih f).mp hw).1 g hg)
    · rintro ⟨h, hw⟩
      exact ⟨h f List.mem_cons_self, hw⟩

/-- An entry of the written table is the new one or an old one. -/
theorem Memory.mem_write {k : Nat} {v : Frame} {m : Memory} {e : Nat × Frame}
    (h : e ∈ m.write k v) : e = (k, v) ∨ e ∈ m := by
  induction m with
  | nil => simpa [Memory.write] using h
  | cons f m ih =>
    obtain ⟨j, u⟩ := f
    simp only [Memory.write] at h
    split at h
    · simpa using h
    · split at h
      · rcases List.mem_cons.mp h with h | h
        · exact .inl h
        · exact .inr (List.mem_cons_of_mem _ h)
      · rcases List.mem_cons.mp h with rfl | h
        · exact .inr List.mem_cons_self
        · exact (ih h).imp id (List.mem_cons_of_mem _)

/-- Writing an entry keeps the canonical form. -/
theorem Memory.wf_write (k : Nat) (v : Frame) (m : Memory) (h : m.wf = true) :
    (m.write k v).wf = true := by
  induction m with
  | nil => simp [Memory.write, Memory.wf]
  | cons e m ih =>
    obtain ⟨j, u⟩ := e
    have hm := (Memory.wf_cons_iff _ _).mp h
    simp only [Memory.write]
    split
    · rename_i hk
      refine (Memory.wf_cons_iff _ _).mpr ⟨?_, h⟩
      intro g hg
      rcases List.mem_cons.mp hg with rfl | hg
      · exact hk
      · exact lt_trans hk (hm.1 g hg)
    · split
      · rename_i hk
        subst hk
        exact (Memory.wf_cons_iff _ _).mpr hm
      · rename_i h1 h2
        refine (Memory.wf_cons_iff _ _).mpr ⟨?_, ih hm.2⟩
        intro g hg
        rcases Memory.mem_write hg with rfl | hg
        · show j < k
          omega
        · exact hm.1 g hg

/-- A written entry reads as what was written, never as the free value. -/
theorem Memory.read_of_lookup_isSome {m : Memory} {k : Nat} (h : (m.lookup k).isSome = true) :
    ∃ v, m.lookup k = some v ∧ m.read k = v := by
  obtain ⟨v, hv⟩ := Option.isSome_iff_exists.mp h
  exact ⟨v, hv, by simp [Memory.read, hv]⟩

/-- Reset lists nothing, in canonical form. -/
theorem reset_memory_wf : State.reset.dt.wf = true := rfl

end Sys2Proof.Machine
end

