-- ==== Sys2Proof/Laws/State.lean ====
section
/-! SUPPORT. One lemma per field per update of the state, so that no later proof unfolds a record update. -/

namespace Sys2Proof.Machine

@[simp] theorem State.clearErrors_spb (s : State) : s.clearErrors.spb = s.spb := rfl
@[simp] theorem State.clearErrors_prev (s : State) : s.clearErrors.prev = s.prev := rfl
@[simp] theorem State.clearErrors_haveprev (s : State) : s.clearErrors.haveprev = s.haveprev := rfl
@[simp] theorem State.clearErrors_ivopen (s : State) : s.clearErrors.ivopen = s.ivopen := rfl
@[simp] theorem State.clearErrors_acc (s : State) : s.clearErrors.acc = s.acc := rfl
@[simp] theorem State.clearErrors_sc (s : State) : s.clearErrors.sc = s.sc := rfl
@[simp] theorem State.clearErrors_nsym (s : State) : s.clearErrors.nsym = s.nsym := rfl
@[simp] theorem State.clearErrors_shr (s : State) : s.clearErrors.shr = s.shr := rfl
@[simp] theorem State.clearErrors_dt (s : State) : s.clearErrors.dt = s.dt := rfl
@[simp] theorem State.clearErrors_nstr (s : State) : s.clearErrors.nstr = s.nstr := rfl
@[simp] theorem State.clearErrors_frm (s : State) : s.clearErrors.frm = s.frm := rfl
@[simp] theorem State.clearErrors_sel (s : State) : s.clearErrors.sel = s.sel := rfl
@[simp] theorem State.clearErrors_cerr (s : State) : s.clearErrors.cerr = false := rfl
@[simp] theorem State.clearErrors_perr (s : State) : s.clearErrors.perr = false := rfl
@[simp] theorem State.clearErrors_ovf (s : State) : s.clearErrors.ovf = false := rfl
@[simp] theorem State.clearErrors_serr (s : State) : s.clearErrors.serr = false := rfl
@[simp] theorem State.clearErrors_port (s : State) : s.clearErrors.port = s.port := rfl
@[simp] theorem State.clearErrors_replies (s : State) : s.clearErrors.replies = s.replies := rfl

@[simp] theorem State.openInterval_spb (s : State) : s.openInterval.spb = s.spb := rfl
@[simp] theorem State.openInterval_prev (s : State) : s.openInterval.prev = s.prev := rfl
@[simp] theorem State.openInterval_haveprev (s : State) : s.openInterval.haveprev = s.haveprev := rfl
@[simp] theorem State.openInterval_ivopen (s : State) : s.openInterval.ivopen = true := rfl
@[simp] theorem State.openInterval_acc (s : State) : s.openInterval.acc = PhaseAcc.zero := rfl
@[simp] theorem State.openInterval_sc (s : State) : s.openInterval.sc = 0 := rfl
@[simp] theorem State.openInterval_nsym (s : State) : s.openInterval.nsym = 0 := rfl
@[simp] theorem State.openInterval_shr (s : State) : s.openInterval.shr = 0 := rfl
@[simp] theorem State.openInterval_dt (s : State) : s.openInterval.dt = s.dt := rfl
@[simp] theorem State.openInterval_nstr (s : State) : s.openInterval.nstr = s.nstr := rfl
@[simp] theorem State.openInterval_frm (s : State) : s.openInterval.frm = s.frm := rfl
@[simp] theorem State.openInterval_sel (s : State) : s.openInterval.sel = s.sel := rfl
@[simp] theorem State.openInterval_cerr (s : State) : s.openInterval.cerr = s.cerr := rfl
@[simp] theorem State.openInterval_perr (s : State) : s.openInterval.perr = s.perr := rfl
@[simp] theorem State.openInterval_ovf (s : State) : s.openInterval.ovf = s.ovf := rfl
@[simp] theorem State.openInterval_serr (s : State) : s.openInterval.serr = s.serr := rfl
@[simp] theorem State.openInterval_port (s : State) : s.openInterval.port = s.port := rfl
@[simp] theorem State.openInterval_replies (s : State) : s.openInterval.replies = s.replies := rfl

@[simp] theorem State.abortInterval_spb (s : State) : s.abortInterval.spb = s.spb := rfl
@[simp] theorem State.abortInterval_prev (s : State) : s.abortInterval.prev = s.prev := rfl
@[simp] theorem State.abortInterval_haveprev (s : State) : s.abortInterval.haveprev = s.haveprev := rfl
@[simp] theorem State.abortInterval_ivopen (s : State) : s.abortInterval.ivopen = false := rfl
@[simp] theorem State.abortInterval_acc (s : State) : s.abortInterval.acc = PhaseAcc.zero := rfl
@[simp] theorem State.abortInterval_sc (s : State) : s.abortInterval.sc = 0 := rfl
@[simp] theorem State.abortInterval_nsym (s : State) : s.abortInterval.nsym = s.nsym := rfl
@[simp] theorem State.abortInterval_shr (s : State) : s.abortInterval.shr = s.shr := rfl
@[simp] theorem State.abortInterval_dt (s : State) : s.abortInterval.dt = s.dt := rfl
@[simp] theorem State.abortInterval_nstr (s : State) : s.abortInterval.nstr = s.nstr := rfl
@[simp] theorem State.abortInterval_frm (s : State) : s.abortInterval.frm = s.frm := rfl
@[simp] theorem State.abortInterval_sel (s : State) : s.abortInterval.sel = s.sel := rfl
@[simp] theorem State.abortInterval_cerr (s : State) : s.abortInterval.cerr = s.cerr := rfl
@[simp] theorem State.abortInterval_perr (s : State) : s.abortInterval.perr = s.perr := rfl
@[simp] theorem State.abortInterval_ovf (s : State) : s.abortInterval.ovf = s.ovf := rfl
@[simp] theorem State.abortInterval_serr (s : State) : s.abortInterval.serr = s.serr := rfl
@[simp] theorem State.abortInterval_port (s : State) : s.abortInterval.port = s.port := rfl
@[simp] theorem State.abortInterval_replies (s : State) : s.abortInterval.replies = s.replies := rfl

@[simp] theorem State.addString_spb (s : State) (v : Frame) : (s.addString v).spb = s.spb := rfl
@[simp] theorem State.addString_prev (s : State) (v : Frame) : (s.addString v).prev = s.prev := rfl
@[simp] theorem State.addString_haveprev (s : State) (v : Frame) : (s.addString v).haveprev = s.haveprev := rfl
@[simp] theorem State.addString_ivopen (s : State) (v : Frame) : (s.addString v).ivopen = s.ivopen := rfl
@[simp] theorem State.addString_acc (s : State) (v : Frame) : (s.addString v).acc = s.acc := rfl
@[simp] theorem State.addString_sc (s : State) (v : Frame) : (s.addString v).sc = s.sc := rfl
@[simp] theorem State.addString_nsym (s : State) (v : Frame) : (s.addString v).nsym = s.nsym := rfl
@[simp] theorem State.addString_shr (s : State) (v : Frame) : (s.addString v).shr = s.shr := rfl
@[simp] theorem State.addString_dt (s : State) (v : Frame) : (s.addString v).dt = s.dt.write s.nstr.toNat v := rfl
@[simp] theorem State.addString_nstr (s : State) (v : Frame) : (s.addString v).nstr = s.nstr + 1 := rfl
@[simp] theorem State.addString_frm (s : State) (v : Frame) : (s.addString v).frm = s.frm := rfl
@[simp] theorem State.addString_sel (s : State) (v : Frame) : (s.addString v).sel = s.sel := rfl
@[simp] theorem State.addString_cerr (s : State) (v : Frame) : (s.addString v).cerr = s.cerr := rfl
@[simp] theorem State.addString_perr (s : State) (v : Frame) : (s.addString v).perr = s.perr := rfl
@[simp] theorem State.addString_ovf (s : State) (v : Frame) : (s.addString v).ovf = s.ovf := rfl
@[simp] theorem State.addString_serr (s : State) (v : Frame) : (s.addString v).serr = s.serr := rfl
@[simp] theorem State.addString_port (s : State) (v : Frame) : (s.addString v).port = s.port := rfl
@[simp] theorem State.addString_replies (s : State) (v : Frame) : (s.addString v).replies = s.replies := rfl

@[simp] theorem State.dump_spb (s : State) (b : Bool) : (s.dump b).spb = s.spb := rfl
@[simp] theorem State.dump_prev (s : State) (b : Bool) : (s.dump b).prev = s.prev := rfl
@[simp] theorem State.dump_haveprev (s : State) (b : Bool) : (s.dump b).haveprev = s.haveprev := rfl
@[simp] theorem State.dump_ivopen (s : State) (b : Bool) : (s.dump b).ivopen = s.ivopen := rfl
@[simp] theorem State.dump_acc (s : State) (b : Bool) : (s.dump b).acc = PhaseAcc.zero := rfl
@[simp] theorem State.dump_sc (s : State) (b : Bool) : (s.dump b).sc = 0 := rfl
@[simp] theorem State.dump_nsym (s : State) (b : Bool) : (s.dump b).nsym = satSucc s.nsym := rfl
@[simp] theorem State.dump_shr (s : State) (b : Bool) : (s.dump b).shr = shiftIn s.shr b := rfl
@[simp] theorem State.dump_dt (s : State) (b : Bool) : (s.dump b).dt = s.dt := rfl
@[simp] theorem State.dump_nstr (s : State) (b : Bool) : (s.dump b).nstr = s.nstr := rfl
@[simp] theorem State.dump_frm (s : State) (b : Bool) : (s.dump b).frm = s.frm := rfl
@[simp] theorem State.dump_sel (s : State) (b : Bool) : (s.dump b).sel = s.sel := rfl
@[simp] theorem State.dump_cerr (s : State) (b : Bool) : (s.dump b).cerr = s.cerr := rfl
@[simp] theorem State.dump_perr (s : State) (b : Bool) : (s.dump b).perr = s.perr := rfl
@[simp] theorem State.dump_ovf (s : State) (b : Bool) : (s.dump b).ovf = s.ovf := rfl
@[simp] theorem State.dump_serr (s : State) (b : Bool) : (s.dump b).serr = s.serr := rfl
@[simp] theorem State.dump_port (s : State) (b : Bool) : (s.dump b).port = s.port := rfl
@[simp] theorem State.dump_replies (s : State) (b : Bool) : (s.dump b).replies = s.replies := rfl

@[simp] theorem State.holdSum_spb (s : State) (a : PhaseAcc) : (s.holdSum a).spb = s.spb := rfl
@[simp] theorem State.holdSum_prev (s : State) (a : PhaseAcc) : (s.holdSum a).prev = s.prev := rfl
@[simp] theorem State.holdSum_haveprev (s : State) (a : PhaseAcc) : (s.holdSum a).haveprev = s.haveprev := rfl
@[simp] theorem State.holdSum_ivopen (s : State) (a : PhaseAcc) : (s.holdSum a).ivopen = s.ivopen := rfl
@[simp] theorem State.holdSum_acc (s : State) (a : PhaseAcc) : (s.holdSum a).acc = a := rfl
@[simp] theorem State.holdSum_sc (s : State) (a : PhaseAcc) : (s.holdSum a).sc = s.sc + 1 := rfl
@[simp] theorem State.holdSum_nsym (s : State) (a : PhaseAcc) : (s.holdSum a).nsym = s.nsym := rfl
@[simp] theorem State.holdSum_shr (s : State) (a : PhaseAcc) : (s.holdSum a).shr = s.shr := rfl
@[simp] theorem State.holdSum_dt (s : State) (a : PhaseAcc) : (s.holdSum a).dt = s.dt := rfl
@[simp] theorem State.holdSum_nstr (s : State) (a : PhaseAcc) : (s.holdSum a).nstr = s.nstr := rfl
@[simp] theorem State.holdSum_frm (s : State) (a : PhaseAcc) : (s.holdSum a).frm = s.frm := rfl
@[simp] theorem State.holdSum_sel (s : State) (a : PhaseAcc) : (s.holdSum a).sel = s.sel := rfl
@[simp] theorem State.holdSum_cerr (s : State) (a : PhaseAcc) : (s.holdSum a).cerr = s.cerr := rfl
@[simp] theorem State.holdSum_perr (s : State) (a : PhaseAcc) : (s.holdSum a).perr = s.perr := rfl
@[simp] theorem State.holdSum_ovf (s : State) (a : PhaseAcc) : (s.holdSum a).ovf = s.ovf := rfl
@[simp] theorem State.holdSum_serr (s : State) (a : PhaseAcc) : (s.holdSum a).serr = s.serr := rfl
@[simp] theorem State.holdSum_port (s : State) (a : PhaseAcc) : (s.holdSum a).port = s.port := rfl
@[simp] theorem State.holdSum_replies (s : State) (a : PhaseAcc) : (s.holdSum a).replies = s.replies := rfl

@[simp] theorem State.notePrev_spb (s : State) (v : IQ) : (s.notePrev v).spb = s.spb := rfl
@[simp] theorem State.notePrev_prev (s : State) (v : IQ) : (s.notePrev v).prev = v := rfl
@[simp] theorem State.notePrev_haveprev (s : State) (v : IQ) : (s.notePrev v).haveprev = true := rfl
@[simp] theorem State.notePrev_ivopen (s : State) (v : IQ) : (s.notePrev v).ivopen = s.ivopen := rfl
@[simp] theorem State.notePrev_acc (s : State) (v : IQ) : (s.notePrev v).acc = s.acc := rfl
@[simp] theorem State.notePrev_sc (s : State) (v : IQ) : (s.notePrev v).sc = s.sc := rfl
@[simp] theorem State.notePrev_nsym (s : State) (v : IQ) : (s.notePrev v).nsym = s.nsym := rfl
@[simp] theorem State.notePrev_shr (s : State) (v : IQ) : (s.notePrev v).shr = s.shr := rfl
@[simp] theorem State.notePrev_dt (s : State) (v : IQ) : (s.notePrev v).dt = s.dt := rfl
@[simp] theorem State.notePrev_nstr (s : State) (v : IQ) : (s.notePrev v).nstr = s.nstr := rfl
@[simp] theorem State.notePrev_frm (s : State) (v : IQ) : (s.notePrev v).frm = s.frm := rfl
@[simp] theorem State.notePrev_sel (s : State) (v : IQ) : (s.notePrev v).sel = s.sel := rfl
@[simp] theorem State.notePrev_cerr (s : State) (v : IQ) : (s.notePrev v).cerr = s.cerr := rfl
@[simp] theorem State.notePrev_perr (s : State) (v : IQ) : (s.notePrev v).perr = s.perr := rfl
@[simp] theorem State.notePrev_ovf (s : State) (v : IQ) : (s.notePrev v).ovf = s.ovf := rfl
@[simp] theorem State.notePrev_serr (s : State) (v : IQ) : (s.notePrev v).serr = s.serr := rfl
@[simp] theorem State.notePrev_port (s : State) (v : IQ) : (s.notePrev v).port = s.port := rfl
@[simp] theorem State.notePrev_replies (s : State) (v : IQ) : (s.notePrev v).replies = s.replies := rfl

@[simp] theorem State.setSpb_spb (s : State) (w : Half) : (s.setSpb w).spb = w := rfl
@[simp] theorem State.setSpb_prev (s : State) (w : Half) : (s.setSpb w).prev = s.prev := rfl
@[simp] theorem State.setSpb_haveprev (s : State) (w : Half) : (s.setSpb w).haveprev = s.haveprev := rfl
@[simp] theorem State.setSpb_ivopen (s : State) (w : Half) : (s.setSpb w).ivopen = s.ivopen := rfl
@[simp] theorem State.setSpb_acc (s : State) (w : Half) : (s.setSpb w).acc = s.acc := rfl
@[simp] theorem State.setSpb_sc (s : State) (w : Half) : (s.setSpb w).sc = s.sc := rfl
@[simp] theorem State.setSpb_nsym (s : State) (w : Half) : (s.setSpb w).nsym = s.nsym := rfl
@[simp] theorem State.setSpb_shr (s : State) (w : Half) : (s.setSpb w).shr = s.shr := rfl
@[simp] theorem State.setSpb_dt (s : State) (w : Half) : (s.setSpb w).dt = s.dt := rfl
@[simp] theorem State.setSpb_nstr (s : State) (w : Half) : (s.setSpb w).nstr = s.nstr := rfl
@[simp] theorem State.setSpb_frm (s : State) (w : Half) : (s.setSpb w).frm = s.frm := rfl
@[simp] theorem State.setSpb_sel (s : State) (w : Half) : (s.setSpb w).sel = s.sel := rfl
@[simp] theorem State.setSpb_cerr (s : State) (w : Half) : (s.setSpb w).cerr = s.cerr := rfl
@[simp] theorem State.setSpb_perr (s : State) (w : Half) : (s.setSpb w).perr = s.perr := rfl
@[simp] theorem State.setSpb_ovf (s : State) (w : Half) : (s.setSpb w).ovf = s.ovf := rfl
@[simp] theorem State.setSpb_serr (s : State) (w : Half) : (s.setSpb w).serr = s.serr := rfl
@[simp] theorem State.setSpb_port (s : State) (w : Half) : (s.setSpb w).port = s.port := rfl
@[simp] theorem State.setSpb_replies (s : State) (w : Half) : (s.setSpb w).replies = s.replies := rfl

@[simp] theorem State.selectEntry_spb (s : State) (k : Half) : (s.selectEntry k).spb = s.spb := rfl
@[simp] theorem State.selectEntry_prev (s : State) (k : Half) : (s.selectEntry k).prev = s.prev := rfl
@[simp] theorem State.selectEntry_haveprev (s : State) (k : Half) : (s.selectEntry k).haveprev = s.haveprev := rfl
@[simp] theorem State.selectEntry_ivopen (s : State) (k : Half) : (s.selectEntry k).ivopen = s.ivopen := rfl
@[simp] theorem State.selectEntry_acc (s : State) (k : Half) : (s.selectEntry k).acc = s.acc := rfl
@[simp] theorem State.selectEntry_sc (s : State) (k : Half) : (s.selectEntry k).sc = s.sc := rfl
@[simp] theorem State.selectEntry_nsym (s : State) (k : Half) : (s.selectEntry k).nsym = s.nsym := rfl
@[simp] theorem State.selectEntry_shr (s : State) (k : Half) : (s.selectEntry k).shr = s.shr := rfl
@[simp] theorem State.selectEntry_dt (s : State) (k : Half) : (s.selectEntry k).dt = s.dt := rfl
@[simp] theorem State.selectEntry_nstr (s : State) (k : Half) : (s.selectEntry k).nstr = s.nstr := rfl
@[simp] theorem State.selectEntry_frm (s : State) (k : Half) : (s.selectEntry k).frm = s.dt.read k.toNat := rfl
@[simp] theorem State.selectEntry_sel (s : State) (k : Half) : (s.selectEntry k).sel = k := rfl
@[simp] theorem State.selectEntry_cerr (s : State) (k : Half) : (s.selectEntry k).cerr = s.cerr := rfl
@[simp] theorem State.selectEntry_perr (s : State) (k : Half) : (s.selectEntry k).perr = s.perr := rfl
@[simp] theorem State.selectEntry_ovf (s : State) (k : Half) : (s.selectEntry k).ovf = s.ovf := rfl
@[simp] theorem State.selectEntry_serr (s : State) (k : Half) : (s.selectEntry k).serr = s.serr := rfl
@[simp] theorem State.selectEntry_port (s : State) (k : Half) : (s.selectEntry k).port = s.port := rfl
@[simp] theorem State.selectEntry_replies (s : State) (k : Half) : (s.selectEntry k).replies = s.replies := rfl

@[simp] theorem State.loadChunk_spb (s : State) (c : BitVec 2) (d : Half) : (s.loadChunk c d).spb = s.spb := rfl
@[simp] theorem State.loadChunk_prev (s : State) (c : BitVec 2) (d : Half) : (s.loadChunk c d).prev = s.prev := rfl
@[simp] theorem State.loadChunk_haveprev (s : State) (c : BitVec 2) (d : Half) : (s.loadChunk c d).haveprev = s.haveprev := rfl
@[simp] theorem State.loadChunk_ivopen (s : State) (c : BitVec 2) (d : Half) : (s.loadChunk c d).ivopen = s.ivopen := rfl
@[simp] theorem State.loadChunk_acc (s : State) (c : BitVec 2) (d : Half) : (s.loadChunk c d).acc = s.acc := rfl
@[simp] theorem State.loadChunk_sc (s : State) (c : BitVec 2) (d : Half) : (s.loadChunk c d).sc = s.sc := rfl
@[simp] theorem State.loadChunk_nsym (s : State) (c : BitVec 2) (d : Half) : (s.loadChunk c d).nsym = s.nsym := rfl
@[simp] theorem State.loadChunk_shr (s : State) (c : BitVec 2) (d : Half) : (s.loadChunk c d).shr = s.shr := rfl
@[simp] theorem State.loadChunk_dt (s : State) (c : BitVec 2) (d : Half) : (s.loadChunk c d).dt = s.dt := rfl
@[simp] theorem State.loadChunk_nstr (s : State) (c : BitVec 2) (d : Half) : (s.loadChunk c d).nstr = s.nstr := rfl
@[simp] theorem State.loadChunk_frm (s : State) (c : BitVec 2) (d : Half) : (s.loadChunk c d).frm = putChunk c d s.frm := rfl
@[simp] theorem State.loadChunk_sel (s : State) (c : BitVec 2) (d : Half) : (s.loadChunk c d).sel = s.sel := rfl
@[simp] theorem State.loadChunk_cerr (s : State) (c : BitVec 2) (d : Half) : (s.loadChunk c d).cerr = s.cerr := rfl
@[simp] theorem State.loadChunk_perr (s : State) (c : BitVec 2) (d : Half) : (s.loadChunk c d).perr = s.perr := rfl
@[simp] theorem State.loadChunk_ovf (s : State) (c : BitVec 2) (d : Half) : (s.loadChunk c d).ovf = s.ovf := rfl
@[simp] theorem State.loadChunk_serr (s : State) (c : BitVec 2) (d : Half) : (s.loadChunk c d).serr = s.serr := rfl
@[simp] theorem State.loadChunk_port (s : State) (c : BitVec 2) (d : Half) : (s.loadChunk c d).port = s.port := rfl
@[simp] theorem State.loadChunk_replies (s : State) (c : BitVec 2) (d : Half) : (s.loadChunk c d).replies = s.replies := rfl

@[simp] theorem State.newCapture_spb (s : State) : s.newCapture.spb = s.spb := rfl
@[simp] theorem State.newCapture_prev (s : State) : s.newCapture.prev = IQ.zero := rfl
@[simp] theorem State.newCapture_haveprev (s : State) : s.newCapture.haveprev = false := rfl
@[simp] theorem State.newCapture_ivopen (s : State) : s.newCapture.ivopen = false := rfl
@[simp] theorem State.newCapture_acc (s : State) : s.newCapture.acc = PhaseAcc.zero := rfl
@[simp] theorem State.newCapture_sc (s : State) : s.newCapture.sc = 0 := rfl
@[simp] theorem State.newCapture_nsym (s : State) : s.newCapture.nsym = 0 := rfl
@[simp] theorem State.newCapture_shr (s : State) : s.newCapture.shr = 0 := rfl
@[simp] theorem State.newCapture_dt (s : State) : s.newCapture.dt = s.dt := rfl
@[simp] theorem State.newCapture_nstr (s : State) : s.newCapture.nstr = 0 := rfl
@[simp] theorem State.newCapture_frm (s : State) : s.newCapture.frm = s.frm := rfl
@[simp] theorem State.newCapture_sel (s : State) : s.newCapture.sel = s.sel := rfl
@[simp] theorem State.newCapture_cerr (s : State) : s.newCapture.cerr = s.cerr := rfl
@[simp] theorem State.newCapture_perr (s : State) : s.newCapture.perr = s.perr := rfl
@[simp] theorem State.newCapture_ovf (s : State) : s.newCapture.ovf = false := rfl
@[simp] theorem State.newCapture_serr (s : State) : s.newCapture.serr = s.serr := rfl
@[simp] theorem State.newCapture_port (s : State) : s.newCapture.port = s.port := rfl
@[simp] theorem State.newCapture_replies (s : State) : s.newCapture.replies = s.replies := rfl

@[simp] theorem State.reply_spb (s : State) (w : Word) : (s.reply w).spb = s.spb := rfl
@[simp] theorem State.reply_prev (s : State) (w : Word) : (s.reply w).prev = s.prev := rfl
@[simp] theorem State.reply_haveprev (s : State) (w : Word) : (s.reply w).haveprev = s.haveprev := rfl
@[simp] theorem State.reply_ivopen (s : State) (w : Word) : (s.reply w).ivopen = s.ivopen := rfl
@[simp] theorem State.reply_acc (s : State) (w : Word) : (s.reply w).acc = s.acc := rfl
@[simp] theorem State.reply_sc (s : State) (w : Word) : (s.reply w).sc = s.sc := rfl
@[simp] theorem State.reply_nsym (s : State) (w : Word) : (s.reply w).nsym = s.nsym := rfl
@[simp] theorem State.reply_shr (s : State) (w : Word) : (s.reply w).shr = s.shr := rfl
@[simp] theorem State.reply_dt (s : State) (w : Word) : (s.reply w).dt = s.dt := rfl
@[simp] theorem State.reply_nstr (s : State) (w : Word) : (s.reply w).nstr = s.nstr := rfl
@[simp] theorem State.reply_frm (s : State) (w : Word) : (s.reply w).frm = s.frm := rfl
@[simp] theorem State.reply_sel (s : State) (w : Word) : (s.reply w).sel = s.sel := rfl
@[simp] theorem State.reply_cerr (s : State) (w : Word) : (s.reply w).cerr = s.cerr := rfl
@[simp] theorem State.reply_perr (s : State) (w : Word) : (s.reply w).perr = s.perr := rfl
@[simp] theorem State.reply_ovf (s : State) (w : Word) : (s.reply w).ovf = s.ovf := rfl
@[simp] theorem State.reply_serr (s : State) (w : Word) : (s.reply w).serr = s.serr := rfl
@[simp] theorem State.reply_port (s : State) (w : Word) : (s.reply w).port = s.port := rfl
@[simp] theorem State.reply_replies (s : State) (w : Word) : (s.reply w).replies = w :: s.replies := rfl

@[simp] theorem State.withPort_spb (s : State) (p : List HostAction) : (s.withPort p).spb = s.spb := rfl
@[simp] theorem State.withPort_prev (s : State) (p : List HostAction) : (s.withPort p).prev = s.prev := rfl
@[simp] theorem State.withPort_haveprev (s : State) (p : List HostAction) : (s.withPort p).haveprev = s.haveprev := rfl
@[simp] theorem State.withPort_ivopen (s : State) (p : List HostAction) : (s.withPort p).ivopen = s.ivopen := rfl
@[simp] theorem State.withPort_acc (s : State) (p : List HostAction) : (s.withPort p).acc = s.acc := rfl
@[simp] theorem State.withPort_sc (s : State) (p : List HostAction) : (s.withPort p).sc = s.sc := rfl
@[simp] theorem State.withPort_nsym (s : State) (p : List HostAction) : (s.withPort p).nsym = s.nsym := rfl
@[simp] theorem State.withPort_shr (s : State) (p : List HostAction) : (s.withPort p).shr = s.shr := rfl
@[simp] theorem State.withPort_dt (s : State) (p : List HostAction) : (s.withPort p).dt = s.dt := rfl
@[simp] theorem State.withPort_nstr (s : State) (p : List HostAction) : (s.withPort p).nstr = s.nstr := rfl
@[simp] theorem State.withPort_frm (s : State) (p : List HostAction) : (s.withPort p).frm = s.frm := rfl
@[simp] theorem State.withPort_sel (s : State) (p : List HostAction) : (s.withPort p).sel = s.sel := rfl
@[simp] theorem State.withPort_cerr (s : State) (p : List HostAction) : (s.withPort p).cerr = s.cerr := rfl
@[simp] theorem State.withPort_perr (s : State) (p : List HostAction) : (s.withPort p).perr = s.perr := rfl
@[simp] theorem State.withPort_ovf (s : State) (p : List HostAction) : (s.withPort p).ovf = s.ovf := rfl
@[simp] theorem State.withPort_serr (s : State) (p : List HostAction) : (s.withPort p).serr = s.serr := rfl
@[simp] theorem State.withPort_port (s : State) (p : List HostAction) : (s.withPort p).port = p := rfl
@[simp] theorem State.withPort_replies (s : State) (p : List HostAction) : (s.withPort p).replies = s.replies := rfl

@[simp] theorem State.pushWord_spb (s : State) (w : Word) : (s.pushWord w).spb = s.spb := rfl
@[simp] theorem State.pushWord_prev (s : State) (w : Word) : (s.pushWord w).prev = s.prev := rfl
@[simp] theorem State.pushWord_haveprev (s : State) (w : Word) : (s.pushWord w).haveprev = s.haveprev := rfl
@[simp] theorem State.pushWord_ivopen (s : State) (w : Word) : (s.pushWord w).ivopen = s.ivopen := rfl
@[simp] theorem State.pushWord_acc (s : State) (w : Word) : (s.pushWord w).acc = s.acc := rfl
@[simp] theorem State.pushWord_sc (s : State) (w : Word) : (s.pushWord w).sc = s.sc := rfl
@[simp] theorem State.pushWord_nsym (s : State) (w : Word) : (s.pushWord w).nsym = s.nsym := rfl
@[simp] theorem State.pushWord_shr (s : State) (w : Word) : (s.pushWord w).shr = s.shr := rfl
@[simp] theorem State.pushWord_dt (s : State) (w : Word) : (s.pushWord w).dt = s.dt := rfl
@[simp] theorem State.pushWord_nstr (s : State) (w : Word) : (s.pushWord w).nstr = s.nstr := rfl
@[simp] theorem State.pushWord_frm (s : State) (w : Word) : (s.pushWord w).frm = s.frm := rfl
@[simp] theorem State.pushWord_sel (s : State) (w : Word) : (s.pushWord w).sel = s.sel := rfl
@[simp] theorem State.pushWord_cerr (s : State) (w : Word) : (s.pushWord w).cerr = s.cerr := rfl
@[simp] theorem State.pushWord_perr (s : State) (w : Word) : (s.pushWord w).perr = s.perr := rfl
@[simp] theorem State.pushWord_ovf (s : State) (w : Word) : (s.pushWord w).ovf = s.ovf := rfl
@[simp] theorem State.pushWord_serr (s : State) (w : Word) : (s.pushWord w).serr = s.serr := rfl
@[simp] theorem State.pushWord_port (s : State) (w : Word) : (s.pushWord w).port = .write w :: s.port := rfl
@[simp] theorem State.pushWord_replies (s : State) (w : Word) : (s.pushWord w).replies = s.replies := rfl

@[simp] theorem State.resetBlock_spb (s : State) : s.resetBlock.spb = State.reset.spb := rfl
@[simp] theorem State.resetBlock_prev (s : State) : s.resetBlock.prev = State.reset.prev := rfl
@[simp] theorem State.resetBlock_haveprev (s : State) : s.resetBlock.haveprev = State.reset.haveprev := rfl
@[simp] theorem State.resetBlock_ivopen (s : State) : s.resetBlock.ivopen = State.reset.ivopen := rfl
@[simp] theorem State.resetBlock_acc (s : State) : s.resetBlock.acc = State.reset.acc := rfl
@[simp] theorem State.resetBlock_sc (s : State) : s.resetBlock.sc = State.reset.sc := rfl
@[simp] theorem State.resetBlock_nsym (s : State) : s.resetBlock.nsym = State.reset.nsym := rfl
@[simp] theorem State.resetBlock_shr (s : State) : s.resetBlock.shr = State.reset.shr := rfl
@[simp] theorem State.resetBlock_dt (s : State) : s.resetBlock.dt = State.reset.dt := rfl
@[simp] theorem State.resetBlock_nstr (s : State) : s.resetBlock.nstr = State.reset.nstr := rfl
@[simp] theorem State.resetBlock_frm (s : State) : s.resetBlock.frm = State.reset.frm := rfl
@[simp] theorem State.resetBlock_sel (s : State) : s.resetBlock.sel = State.reset.sel := rfl
@[simp] theorem State.resetBlock_cerr (s : State) : s.resetBlock.cerr = State.reset.cerr := rfl
@[simp] theorem State.resetBlock_perr (s : State) : s.resetBlock.perr = State.reset.perr := rfl
@[simp] theorem State.resetBlock_ovf (s : State) : s.resetBlock.ovf = State.reset.ovf := rfl
@[simp] theorem State.resetBlock_serr (s : State) : s.resetBlock.serr = State.reset.serr := rfl
@[simp] theorem State.resetBlock_port (s : State) : s.resetBlock.port = s.port := rfl
@[simp] theorem State.resetBlock_replies (s : State) : s.resetBlock.replies = s.replies := rfl

@[simp] theorem State.record_spb (s : State) (e : ErrorBit) : (s.record e).spb = s.spb := by cases e <;> rfl
@[simp] theorem State.record_prev (s : State) (e : ErrorBit) : (s.record e).prev = s.prev := by cases e <;> rfl
@[simp] theorem State.record_haveprev (s : State) (e : ErrorBit) : (s.record e).haveprev = s.haveprev := by cases e <;> rfl
@[simp] theorem State.record_ivopen (s : State) (e : ErrorBit) : (s.record e).ivopen = s.ivopen := by cases e <;> rfl
@[simp] theorem State.record_acc (s : State) (e : ErrorBit) : (s.record e).acc = s.acc := by cases e <;> rfl
@[simp] theorem State.record_sc (s : State) (e : ErrorBit) : (s.record e).sc = s.sc := by cases e <;> rfl
@[simp] theorem State.record_nsym (s : State) (e : ErrorBit) : (s.record e).nsym = s.nsym := by cases e <;> rfl
@[simp] theorem State.record_shr (s : State) (e : ErrorBit) : (s.record e).shr = s.shr := by cases e <;> rfl
@[simp] theorem State.record_dt (s : State) (e : ErrorBit) : (s.record e).dt = s.dt := by cases e <;> rfl
@[simp] theorem State.record_nstr (s : State) (e : ErrorBit) : (s.record e).nstr = s.nstr := by cases e <;> rfl
@[simp] theorem State.record_frm (s : State) (e : ErrorBit) : (s.record e).frm = s.frm := by cases e <;> rfl
@[simp] theorem State.record_sel (s : State) (e : ErrorBit) : (s.record e).sel = s.sel := by cases e <;> rfl
@[simp] theorem State.record_port (s : State) (e : ErrorBit) : (s.record e).port = s.port := by cases e <;> rfl
@[simp] theorem State.record_replies (s : State) (e : ErrorBit) : (s.record e).replies = s.replies := by cases e <;> rfl
@[simp] theorem State.record_cerr_cerr (s : State) : (s.record .cerr).cerr = true := rfl
@[simp] theorem State.record_cerr_perr (s : State) : (s.record .cerr).perr = s.perr := rfl
@[simp] theorem State.record_cerr_ovf (s : State) : (s.record .cerr).ovf = s.ovf := rfl
@[simp] theorem State.record_cerr_serr (s : State) : (s.record .cerr).serr = s.serr := rfl
@[simp] theorem State.record_perr_cerr (s : State) : (s.record .perr).cerr = s.cerr := rfl
@[simp] theorem State.record_perr_perr (s : State) : (s.record .perr).perr = true := rfl
@[simp] theorem State.record_perr_ovf (s : State) : (s.record .perr).ovf = s.ovf := rfl
@[simp] theorem State.record_perr_serr (s : State) : (s.record .perr).serr = s.serr := rfl
@[simp] theorem State.record_ovf_cerr (s : State) : (s.record .ovf).cerr = s.cerr := rfl
@[simp] theorem State.record_ovf_perr (s : State) : (s.record .ovf).perr = s.perr := rfl
@[simp] theorem State.record_ovf_ovf (s : State) : (s.record .ovf).ovf = true := rfl
@[simp] theorem State.record_ovf_serr (s : State) : (s.record .ovf).serr = s.serr := rfl
@[simp] theorem State.record_serr_cerr (s : State) : (s.record .serr).cerr = s.cerr := rfl
@[simp] theorem State.record_serr_perr (s : State) : (s.record .serr).perr = s.perr := rfl
@[simp] theorem State.record_serr_ovf (s : State) : (s.record .serr).ovf = s.ovf := rfl
@[simp] theorem State.record_serr_serr (s : State) : (s.record .serr).serr = true := rfl

end Sys2Proof.Machine
end

