-- ==== Sys2Proof/Laws/Ops.lean ====
section
/-! SUPPORT. For each shared operation one lemma that says everything it can do; later proofs cite it in place of unfolding. -/

namespace Sys2Proof.Machine

/-- A string is in the set exactly when some valid entry holds it. -/
theorem State.hasString_iff (s : State) (v : Frame) :
    s.hasString v = true ↔ ∃ k, k < s.nstr.toNat ∧ s.dt.read k = v := by
  simp [State.hasString]

/-- DEDUP_INSERT: already there, or added while there is room, or dropped with OVF. -/
theorem dedupInsert_cases (cfg : Config.Params) (v : Frame) (s : State) :
    (s.hasString v = true ∧ dedupInsert cfg v s = s) ∨
    (s.hasString v = false ∧ s.nstr.toNat < cfg.depth ∧ dedupInsert cfg v s = s.addString v) ∨
    (s.hasString v = false ∧ cfg.depth ≤ s.nstr.toNat ∧ dedupInsert cfg v s = s.record .ovf) := by
  unfold dedupInsert
  by_cases h : s.hasString v = true
  · exact .inl ⟨h, by simp [h]⟩
  · have h' : s.hasString v = false := by simpa using h
    by_cases hd : s.nstr.toNat < cfg.depth
    · exact .inr (.inl ⟨h', hd, by simp [h', hd]⟩)
    · exact .inr (.inr ⟨h', by omega, by simp [h', hd]⟩)

/-- CLOSE: an interval of exactly 64 symbols inserts its string, every interval ends. -/
theorem closeInterval_cases (cfg : Config.Params) (s : State) :
    (s.nsym.toNat = 64 ∧ closeInterval cfg s = (dedupInsert cfg s.shr s).abortInterval) ∨
    (s.nsym.toNat ≠ 64 ∧ closeInterval cfg s = s.abortInterval) := by
  unfold closeInterval
  by_cases h : s.nsym.toNat = Config.totalBits
  · exact .inl ⟨h, by simp [h]⟩
  · exact .inr ⟨h, by simp [h]⟩

/-- ACCUM: the window goes on, or it is dumped. -/
theorem accum_cases (d : PhaseStep) (s : State) :
    (s.sc + 1 ≠ s.spb.toNat ∧ accum d s = s.holdSum (s.acc.add (s.sc == 0) d)) ∨
    (s.sc + 1 = s.spb.toNat ∧ accum d s = s.dump ((s.acc.add (s.sc == 0) d).isPos d.stop)) := by
  unfold accum
  by_cases h : s.sc + 1 = s.spb.toNat
  · exact .inr ⟨h, by simp [h]⟩
  · exact .inl ⟨h, by simp [h]⟩

/-- SLICE: one of its five paths, in terms of the state after the abort of an interval that SOI found open. -/
theorem slice_cases (cfg : Config.Params) (soi eoi : Bool) (d : PhaseStep) (s : State) :
    (soi = true ∧ s.spb = 0 ∧ slice cfg soi eoi d s = (abortUnclosed s).record .perr) ∨
    (soi = true ∧ s.spb ≠ 0 ∧ slice cfg soi eoi d s = accumClose cfg eoi d (abortUnclosed s).openInterval) ∨
    (soi = false ∧ eoi = true ∧ s.ivopen = false ∧ slice cfg soi eoi d s = s.record .perr) ∨
    (soi = false ∧ s.ivopen = true ∧ slice cfg soi eoi d s = accumClose cfg eoi d s) ∨
    (soi = false ∧ eoi = false ∧ s.ivopen = false ∧ slice cfg soi eoi d s = s) := by
  have hspb : (abortUnclosed s).spb = s.spb := by unfold abortUnclosed; split <;> simp
  unfold slice
  rw [hspb]
  cases soi with
  | true =>
    by_cases h : s.spb = 0
    · exact .inl ⟨rfl, h, by simp [h]⟩
    · exact .inr (.inl ⟨rfl, h, by simp only [if_true, if_neg h]⟩)
  | false => cases eoi <;> cases h : s.ivopen <;> simp

/-- The abort of an interval that SOI found open, field by field. -/
theorem abortUnclosed_cases (s : State) :
    (s.ivopen = true ∧ abortUnclosed s = (s.record .perr).abortInterval) ∨
    (s.ivopen = false ∧ abortUnclosed s = s) := by
  unfold abortUnclosed
  cases h : s.ivopen <;> simp

end Sys2Proof.Machine
end

