-- ==== Sys2Proof/Laws/PerInstr.lean ====
section
/-! SUPPORT. Facts about every command as syntax, one lemma per constructor. -/

namespace Sys2Proof.Laws.EncodesToRow

/-- The mask and match of each command's row in the opcode map (30_encoding.md R87). -/
def row : Instr → Word × Word
  | .nop => (0xFFFFFFFF, 0x00000000)
  | .sample _ _ _ _ => (0xFFFC0000, 0x10000000)
  | .endInterval => (0xFFFFFFFF, 0x20000000)
  | .setspb _ => (0xFFFF0000, 0x30000000)
  | .capture => (0xFFFFFFFF, 0x40000000)
  | .select _ => (0xFFFF0000, 0x50000000)
  | .ldfrm _ _ => (0xFFFC0000, 0x60000000)
  | .clrstat => (0xFFFFFFFF, 0x70000000)

/-- The command's word is selected by its own row. -/
def Statement (i : Instr) : Prop := encode i &&& (row i).1 = (row i).2

theorem nop : Statement .nop := by
  unfold Statement
  decide

theorem endInterval : Statement .endInterval := by
  unfold Statement
  decide

theorem capture : Statement .capture := by
  unfold Statement
  decide

theorem clrstat : Statement .clrstat := by
  unfold Statement
  decide

theorem setspb (w : Half) : Statement (.setspb w) := by
  unfold Statement
  refine BitVec.eq_of_getElem_eq fun j hj => ?_
  interval_cases j <;> simp [encode, row, place]

theorem select (k : Half) : Statement (.select k) := by
  unfold Statement
  refine BitVec.eq_of_getElem_eq fun j hj => ?_
  interval_cases j <;> simp [encode, row, place]

theorem ldfrm (c : BitVec 2) (d : Half) : Statement (.ldfrm c d) := by
  unfold Statement
  refine BitVec.eq_of_getElem_eq fun j hj => ?_
  interval_cases j <;> simp [encode, row, place]

theorem sample (ib qb : Byte) (soi eoi : Bool) : Statement (.sample ib qb soi eoi) := by
  unfold Statement
  refine BitVec.eq_of_getElem_eq fun j hj => ?_
  interval_cases j <;> simp [encode, row, place]

end Sys2Proof.Laws.EncodesToRow
end

