-- ==== Sys2Proof/Tests/Slice0.lean ====
section
/-! SUPPORT. The model's own tests: words written out from spec/30_encoding.md, vectors of spec/95_test_vectors.md, checks that
refuse, and for every statement with hypotheses a state and operands that meet them. -/

namespace Sys2Proof.Tests

open Sys2Proof Sys2Proof.Machine

/-- The state a meaning answers. -/
def nextOf (o : Host.Outcome State Fault Refusal) : State :=
  match o with
  | .next t => t
  | .fault _ => State.reset
  | .refused _ => State.reset

/-- The vector configuration of spec/95_test_vectors.md. -/
def vectorCfg : Config.Params := ⟨.c010, 0x1234, 3, .lower⟩

/-- After SETSPB w and the sample E (255, 128): no interval open, phase 0 before. -/
def idle (w : Half) : State := { State.reset with spb := w, prev := ⟨127, 0⟩, haveprev := true }

/-- The same with an interval open on its first sample. -/
def opened (w : Half) : State := { idle w with ivopen := true }

/-- An open interval with n symbols decided. -/
def decided (n : Half) (bits : Frame) : State := { opened 1 with nsym := n, shr := bits }

/-! ### Well-formedness: a term each check refuses -/

theorem test_wf_sample_i : AsmLine.wf (.sample 256 0 false false) = false := by decide
theorem test_wf_sample_q : AsmLine.wf (.sample 0 256 false false) = false := by decide
theorem test_wf_setspb : AsmLine.wf (.setspb 65536) = false := by decide
theorem test_wf_select : AsmLine.wf (.select 65536) = false := by decide
theorem test_wf_ldfrm_c : AsmLine.wf (.ldfrm 4 0) = false := by decide
theorem test_wf_ldfrm_d : AsmLine.wf (.ldfrm 0 65536) = false := by decide
theorem test_wf_word : AsmLine.wf (.word 0x100000000) = false := by decide
theorem test_wf_ldfrm64 : AsmLine.wf (.ldfrm64 0x10000000000000000) = false := by decide
theorem test_wf_samplen_low : AsmLine.wf (.samplen (-129) 0 false false) = false := by decide
theorem test_wf_samplen_high : AsmLine.wf (.samplen 0 128 false false) = false := by decide
theorem test_wf_ldfrmstr_length : AsmLine.wf (.ldfrmstr ['0', '1']) = false := by decide
theorem test_wf_ldfrmstr_digit : AsmLine.wf (.ldfrmstr (List.replicate 63 '0' ++ ['2'])) = false := by decide

/-! ### Decoding: words written out from 30_encoding.md R81 to R85, and the boundary words of 95_test_vectors.md 2.4 -/

theorem test_decode_nop : decode 0b0000_0000000000_0_0_00000000_00000000 = .ok .nop := by decide
theorem test_decode_sample :
    decode 0b0001_0000000000_0_1_11111111_10000000 = .ok (.sample 128 255 true false) := by decide
theorem test_decode_end : decode 0b0010_0000000000_0_0_00000000_00000000 = .ok .endInterval := by decide
theorem test_decode_setspb : decode 0b0011_000000000000_0000000000001000 = .ok (.setspb 8) := by decide
theorem test_decode_capture : decode 0b0100_0000000000_0_0_00000000_00000000 = .ok .capture := by decide
theorem test_decode_select : decode 0b0101_000000000000_1000000000000001 = .ok (.select 0x8001) := by decide
theorem test_decode_ldfrm : decode 0b0110_0000000000_10_1011111011101111 = .ok (.ldfrm 2 0xBEEF) := by decide
theorem test_decode_clrstat : decode 0b0111_0000000000_0_0_00000000_00000000 = .ok .clrstat := by decide
theorem test_decode_reserved_opcode : decode 0x80000000 = .error .reservedOpcode := by decide
theorem test_decode_reserved_nop : decode 0x00000001 = .error .reservedBits := by decide
theorem test_decode_reserved_sample : decode 0x10040000 = .error .reservedBits := by decide
theorem test_decode_reserved_setspb : decode 0x30010000 = .error .reservedBits := by decide
theorem test_decode_sample_all_ones : decode 0x1003FFFF = .ok (.sample 255 255 true true) := by decide
theorem test_decode_7FFFFFFF : decode 0x7FFFFFFF = .error .reservedBits := by decide
theorem test_encode_sample : encode (.sample 255 128 false true) = 0x100280FF := by decide
theorem test_table_word : decodeTableWord 32 0x6002BEEF = some (.ldfrm 2 0xBEEF) := by decide

/-! ### The phase path: vectors V4, V8, V9, and V12 in the sign form of 95_test_vectors.md 2.1 -/

theorem test_norm : normalise 0 255 = ⟨-128, 127⟩ := by decide
theorem test_wdir_V4 : wdir ⟨-128, 0⟩ ⟨127, 0⟩ = 1 := by decide
theorem test_wdir_V8 : wdir ⟨0, -128⟩ ⟨-128, 0⟩ = -1 := by decide
theorem test_wdir_V9 : wdir ⟨-127, 1⟩ ⟨-127, -1⟩ = 1 := by decide
theorem test_sign_V12 : diffSign ⟨-128, 0⟩ ⟨0, 0⟩ = 1 := by decide

/-! ### SAMPLE: 95_test_vectors.md F3 and step 3 of P1 -/

theorem test_sample_F3 :
    (nextOf (exec (.sample 0 128 true false) (decided 1 1))).status = 0x203 ∧
    (nextOf (exec (.sample 0 128 true false) (decided 1 1))).nsym = 1 := by decide
theorem test_sample_P1_step3 :
    (nextOf (exec (.sample 128 255 true false) (idle 2))).acc = ⟨⟨127, 0⟩, 0⟩ ∧
    (nextOf (exec (.sample 128 255 true false) (idle 2))).sc = 1 := by decide

/-! ### SETSPB, END, dedup: F5, F6, F7, F9, F11 and P5 -/

theorem test_setspb_F5 : (nextOf (exec (.setspb 0) (idle 8))).spb = 8 ∧
    (nextOf (exec (.setspb 0) (idle 8))).cerr = true := by decide
theorem test_setspb_F7 : (nextOf (exec (.setspb 0xFFFF) (idle 8))).spb = 0xFFFF := by decide
theorem test_end_F9 :
    (closeInterval vectorCfg (decided 64 0xAB)).dt = [(0, 0xAB)] ∧
    (closeInterval vectorCfg (decided 64 0xAB)).nstr = 1 := by decide
theorem test_end_F11 :
    (nextOf (exec .endInterval (decided 63 0xAB))).nstr = 0 ∧
    (nextOf (exec .endInterval (decided 63 0xAB))).nsym = 63 := by decide
theorem test_dedup_full_P5 :
    (dedupInsert ⟨.c010, 0x1234, 0, .lower⟩ 7 { idle 1 with dt := [(0, 9)], nstr := 1 }).ovf = true := by decide
theorem test_dedup_known :
    (dedupInsert vectorCfg 9 { idle 1 with dt := [(0, 9)], nstr := 1 }).nstr = 1 := by decide
theorem test_memory_write_sorted : Memory.write 1 5 [(0, 9), (2, 7)] = [(0, 9), (1, 5), (2, 7)] := by decide

/-! ### CAPTURE, CLRSTAT, SELECT, LDFRM, NOP: K7, K8, L1 to L5, P2 -/

theorem test_capture_K7 :
    (nextOf (exec .capture { opened 1 with nstr := 3, cerr := true, perr := true, ovf := true, serr := true })).status
      = 0x0B00 := by decide
theorem test_clrstat_K8 :
    (nextOf (exec .clrstat { idle 1 with cerr := true, ovf := true })).status = 0x0002 := by decide
theorem test_select_L1 : (nextOf (exec (.select 0) State.reset)).serr = true := by decide
theorem test_select_L2 :
    (nextOf (exec (.select 0) { idle 1 with dt := [(0, 9)], nstr := 1 })).frm = 9 := by decide
theorem test_ldfrm_L4 : (nextOf (exec (.ldfrm 2 0xBEEF) State.reset)).frm = 0x0000BEEF00000000 := by decide
theorem test_ldfrm_L5 :
    (nextOf (exec (.ldfrm 0 1) { State.reset with frm := 0x0000BEEF00000000 })).frm = 0x0000BEEF00000001 := by decide
theorem test_nop : nextOf (exec .nop (opened 3)) = opened 3 := by decide

/-! ### The parser and the readback registers: P-a, P-c, P-g, P-i, R252 -/

theorem test_parse_sync : readback vectorCfg 7 { State.reset with frm := 0xAAAAAA1234000013 } = 0x00011234 := by decide
theorem test_parse_cmdbat : readback vectorCfg 9 { State.reset with frm := 0xAAAAAA1234000013 } = 0x59 := by decide
theorem test_parse_close : readback vectorCfg 9 { State.reset with frm := 4 } = 0xA2 := by decide
theorem test_parse_unknown : readback vectorCfg 9 { State.reset with frm := 0x000000FFFFFFFFFF } = 0x4F := by decide
theorem test_parse_devid : readback vectorCfg 8 { State.reset with frm := 0x0000001234ABCDE3 } = 0x000ABCDE := by decide
theorem test_caps : readback vectorCfg 0xA State.reset = 0x00020004 := by decide
theorem test_device_id : deviceIdString vectorCfg 0x0000001234ABCDE3 = ['0', 'x', 'a', 'b', 'c', 'd', 'e'] := by decide

/-! ### The step: an illegal word (S5), a fetched command, and the assembler and driver (R92, R93, X1, X5) -/

theorem test_step_illegal :
    (nextOf (step ((idle 1).withFetchWord 32 0x10048000))).cerr = true ∧
    (nextOf (step ((idle 1).withFetchWord 32 0x10048000))).prev = ⟨127, 0⟩ := by decide
theorem test_step_fetch_reset :
    (nextOf (step (State.reset.withFetchWord 32 0x30000008))).spb = 8 ∧
    (nextOf (step (State.reset.withFetchWord 32 0x30000008))).port = [] := by decide
theorem test_step_read : (nextOf (step { idle 8 with port := [.read 1] })).replies = [8] := by decide
theorem test_parse_line :
    parseLine "sample.S 255, 0x80".toList = some (.sample 255 128 true false) := by decide
theorem test_assemble_samplen : assemble (.samplen (-128) 127 true true) = some [0x1003FF00] := by decide
theorem test_driver_pairs : samplePairs [0xFF, 0x80, 0x80, 0xFF, 7] = [(0xFF, 0x80), (0x80, 0xFF)] := by decide
theorem test_driver_flags :
    sampleCommands [⟨1, some 3⟩] 0 [(0, 0), (1, 1), (2, 2), (3, 3)] =
      [.sample 0 0 false false, .sample 1 1 true false, .sample 2 2 false false, .sample 3 3 false true] := by decide

end Sys2Proof.Tests
end

