-- ==== Sys2Proof/Tests/Witnesses.lean ====
section
/-! SUPPORT. For each statement with hypotheses, a concrete state and operands that meet them all, and for a statement with several
clauses one for each clause at a boundary value. -/

namespace Sys2Proof.Tests

open Sys2Proof Sys2Proof.Machine

/-- The depth of every configuration is at least 1. -/
theorem depth_pos : 0 < Config.params.depth := Nat.succ_pos _

theorem depth_le : Config.params.depth ≤ 65535 := by
  unfold Config.Params.depth
  omega

/-- An open interval of 64 zero bits over a table filled to its depth with 1, 2, 3, … -/
def fullTable : State :=
  { decided 64 0 with
    dt := (List.range Config.params.depth).map fun k => (k, BitVec.ofNat 64 (k + 1))
    nstr := BitVec.ofNat 16 Config.params.depth }

theorem fullTable_nstr : fullTable.nstr.toNat = Config.params.depth := by
  have := depth_le
  show (BitVec.ofNat 16 Config.params.depth).toNat = _
  rw [BitVec.toNat_ofNat]
  omega

theorem lookup_of_mem {m : Memory} {k : Nat} {v : Frame} (h : (k, v) ∈ m)
    (hu : ∀ u, (k, u) ∈ m → u = v) : m.lookup k = some v := by
  induction m with
  | nil => simp at h
  | cons e m ih =>
    obtain ⟨j, u⟩ := e
    unfold Memory.lookup
    by_cases hj : j = k
    · subst hj
      simp [hu u List.mem_cons_self]
    · rw [if_neg hj]
      refine ih ?_ fun u hu' => hu u (List.mem_cons_of_mem _ hu')
      rcases List.mem_cons.mp h with h | h
      · exact absurd (congrArg Prod.fst h).symm hj
      · exact h

theorem fullTable_lookup {k : Nat} (hk : k < Config.params.depth) :
    fullTable.dt.lookup k = some (BitVec.ofNat 64 (k + 1)) := by
  refine lookup_of_mem ?_ ?_
  · exact List.mem_map.mpr ⟨k, List.mem_range.mpr hk, rfl⟩
  · intro u hu
    obtain ⟨j, -, hj⟩ := List.mem_map.mp hu
    cases hj
    rfl

theorem fullTable_read {k : Nat} (hk : k < Config.params.depth) :
    fullTable.dt.read k = BitVec.ofNat 64 (k + 1) := by
  simp [Memory.read, fullTable_lookup hk]

theorem fullTable_new (k : Nat) (hk : k < fullTable.nstr.toNat) : fullTable.dt.read k ≠ fullTable.shr := by
  rw [fullTable_nstr] at hk
  have := depth_le
  rw [fullTable_read hk]
  intro h
  have h' := congrArg BitVec.toNat h
  have hz : fullTable.shr.toNat = 0 := rfl
  rw [hz, BitVec.toNat_ofNat] at h'
  omega

/-- The invariant of the small states below: nothing in the table, a sample seen. -/
theorem opened_inv (w : Half) (hw : w ≠ 0) : (opened w).Inv := by
  have hpos : 0 < w.toNat := by
    rcases Nat.eq_zero_or_pos w.toNat with h | h
    · exact absurd (BitVec.eq_of_toNat_eq (by simpa using h)) hw
    · exact h
  constructor <;> simp [opened, idle, State.reset, Memory.wf, isNormalised, PhaseAcc.zero, IQ.zero] <;> omega

theorem idle_inv (w : Half) : (idle w).Inv := by
  constructor <;> simp [idle, State.reset, Memory.wf, isNormalised, PhaseAcc.zero, IQ.zero]

/-! ### Encoding -/

theorem wit_decodeEncode : Instr.wf (.sample 255 255 true true) = true := rfl
theorem wit_encodeDecode : decode 0x6003FFFF = .ok (.ldfrm 3 0xFFFF) := by decide
theorem wit_opcodeMap_rows :
    (0x00000000#32 &&& 0xFFFFFFFF = 0x00000000) ∧ (0x1003FFFF#32 &&& 0xFFFC0000 = 0x10000000) ∧
    (0x20000000#32 &&& 0xFFFFFFFF = 0x20000000) ∧ (0x3000FFFF#32 &&& 0xFFFF0000 = 0x30000000) ∧
    (0x40000000#32 &&& 0xFFFFFFFF = 0x40000000) ∧ (0x5000FFFF#32 &&& 0xFFFF0000 = 0x50000000) ∧
    (0x6003FFFF#32 &&& 0xFFFC0000 = 0x60000000) ∧ (0x70000000#32 &&& 0xFFFFFFFF = 0x70000000) := by decide
theorem wit_opcodeMap_illegal :
    8 ≤ (0x80000000#32).toNat / 2 ^ 28 ∧
    ((0x70000001#32).toNat / 2 ^ 28 ∈ [0x0, 0x2, 0x4, 0x7] ∧ (0x70000001#32).extractLsb' 0 28 ≠ 0) ∧
    ((0x10040000#32).toNat / 2 ^ 28 ∈ [0x1, 0x6] ∧ (0x10040000#32).extractLsb' 18 10 ≠ 0) ∧
    ((0x50010000#32).toNat / 2 ^ 28 ∈ [0x3, 0x5] ∧ (0x50010000#32).extractLsb' 16 12 ≠ 0) := by decide
theorem wit_assembler_string :
    (List.replicate 64 '1').length = 64 ∧ ∀ c ∈ List.replicate 64 '1', c = '0' ∨ c = '1' := by simp
theorem wit_assembler_badString :
    (List.replicate 63 '0').length ≠ 64 ∧ ∃ c ∈ List.replicate 64 '2', c ≠ '0' ∧ c ≠ '1' := by simp
theorem wit_bitString : (List.replicate 64 true).length = 64 ∧ (63 : Nat) < 64 := by decide

/-! ### The step -/

theorem wit_stepRuns :
    ({ idle 1 with port := [.write 0x100080FF, .read 0] } : State).port = .write 0x100080FF :: [.read 0] ∧
    decode 0x100080FF = .ok (.sample 255 128 false false) := by decide
theorem wit_illegalWord :
    ({ idle 1 with port := [.write 0x10040000] } : State).port = .write 0x10040000 :: [] ∧
    decode 0x10040000 = .error .reservedBits := by decide
theorem wit_read :
    ({ idle 1 with port := [.read 0xF] } : State).port = .read 0xF :: [] ∧
    step { idle 1 with port := [.read 0xF] } = .next { idle 1 with port := [], replies := [0] } := ⟨rfl, rfl⟩
theorem wit_resetInput : ({ opened 1 with port := [.reset] } : State).port = .reset :: [] := rfl
theorem wit_idle : (opened 1).port = [] := rfl

/-! ### The commands -/

theorem wit_select_valid : (0 : Half).toNat < ({ idle 1 with dt := [(0, 9)], nstr := 1 } : State).nstr.toNat := by decide
theorem wit_select_outOfRange :
    ({ idle 1 with dt := [(0, 9)], nstr := 1 } : State).nstr.toNat ≤ (1 : Half).toNat := by decide
theorem wit_end_closed : (idle 1).ivopen = false := rfl
theorem wit_end_otherLength :
    ((decided 63 0).ivopen = true ∧ (decided 63 0).nsym.toNat ≠ 64) ∧
    ((decided 65 0).ivopen = true ∧ (decided 65 0).nsym.toNat ≠ 64) := by decide
theorem wit_end_new :
    (decided 64 7).ivopen = true ∧ (decided 64 7).nsym.toNat = 64 ∧
    (∀ k, k < (decided 64 7).nstr.toNat → (decided 64 7).dt.read k ≠ (decided 64 7).shr) ∧
    (decided 64 7).nstr.toNat < Config.params.depth :=
  ⟨rfl, rfl, fun k hk => absurd hk (Nat.not_lt_zero k), depth_pos⟩
theorem wit_end_known :
    let s : State := { decided 64 9 with dt := [(0, 9)], nstr := 1 }
    s.ivopen = true ∧ s.nsym.toNat = 64 ∧ ∃ k, k < s.nstr.toNat ∧ s.dt.read k = s.shr :=
  ⟨rfl, rfl, 0, by decide, rfl⟩
theorem wit_end_full :
    fullTable.ivopen = true ∧ fullTable.nsym.toNat = 64 ∧
    (∀ k, k < fullTable.nstr.toNat → fullTable.dt.read k ≠ fullTable.shr) ∧
    Config.params.depth ≤ fullTable.nstr.toNat :=
  ⟨rfl, rfl, fullTable_new, fullTable_nstr.ge⟩
theorem wit_sample_closed : (idle 1).ivopen = false := rfl
theorem wit_sample_noSpb : State.reset.spb = 0 := rfl
theorem wit_sample_opens : (idle 1).spb ≠ 0 ∧ (opened 0xFFFF).spb ≠ 0 := by decide
theorem wit_sample_accumulates : (opened 2).ivopen = true ∧ (opened 2).sc + 1 ≠ (opened 2).spb.toNat := by decide
theorem wit_sample_dumps : (opened 1).ivopen = true ∧ (opened 1).sc + 1 = (opened 1).spb.toNat := by decide
theorem wit_sample_eoi : (opened 3).ivopen = true := rfl

/-! ### The real form -/

theorem wit_phase : (⟨127, 1⟩ : IQ) ≠ ⟨0, 0⟩ ∧ (-1 : Int) < 0 := by decide
theorem wit_wrap :
    (-(2 * Real.pi) < Real.pi ∧ Real.pi < 2 * Real.pi ∧ -Real.pi < Real.pi ∧ Real.pi ≤ Real.pi) ∧
    (-(2 * Real.pi) < -Real.pi ∧ -Real.pi < 2 * Real.pi ∧ -Real.pi ≤ -Real.pi) ∧
    (-(2 * Real.pi) < 3 / 2 * Real.pi ∧ 3 / 2 * Real.pi < 2 * Real.pi ∧ Real.pi < 3 / 2 * Real.pi) := by
  have h := Real.pi_pos
  refine ⟨⟨?_, ?_, ?_, ?_⟩, ⟨?_, ?_, ?_⟩, ?_, ?_, ?_⟩ <;> linarith
theorem wit_cross : isNormalised ⟨-128, -128⟩ ∧ isNormalised ⟨127, -128⟩ := by
  simp [isNormalised]
theorem wit_phPos : phPos ⟨-128, 0⟩ = true ∧ phPos ⟨127, 1⟩ = true := by decide
theorem wit_bit :
    (opened 1).Inv ∧ (opened 1).ivopen = true ∧ (opened 1).sc + 1 = (opened 1).spb.toNat :=
  ⟨opened_inv 1 (by decide), rfl, rfl⟩
/-- W after E: the sum is π, strictly positive (95_test_vectors.md V3). -/
theorem wit_bit_positive :
    0 < (opened 1).accReal + realDiff (opened 1).prev (normalise 0 128) (opened 1).haveprev := by
  have hw : phase (normalise 0 128) = Real.pi := by
    unfold phase
    rw [Complex.arg_eq_pi_iff]
    simp [normalise]
  have he : phase (⟨127, 0⟩ : IQ) = 0 := by
    unfold phase
    rw [Complex.arg_eq_zero_iff]
    simp
  have h := Real.pi_pos
  show 0 < (0 : ℝ) + realDiff ⟨127, 0⟩ (normalise 0 128) true
  simp only [realDiff, wrap, hw, he, if_true, sub_zero, zero_add, lt_irrefl, if_false]
  rw [if_neg (by linarith)]
  exact h
/-- E after E: the sum is 0, the tie (95_test_vectors.md B1). -/
theorem wit_bit_tie :
    (opened 1).accReal + realDiff (opened 1).prev (normalise 255 128) (opened 1).haveprev ≤ 0 := by
  have h := Real.pi_pos
  show (0 : ℝ) + realDiff ⟨127, 0⟩ ⟨127, 0⟩ true ≤ 0
  simp [realDiff, wrap, h.not_ge, h.not_gt]
theorem wit_refines : (opened 2).Inv ∧ (idle 2).Inv := ⟨opened_inv 2 (by decide), idle_inv 2⟩
theorem wit_interval : (idle 2).spb ≠ 0 ∧ ([(128, 255), (0, 128), (128, 0)] : List (Byte × Byte)) ≠ [] := by decide
theorem wit_bitString_runs :
    let s := idle 1
    let s' : State := { decided 5 3 with sel := 7 }
    s.spb ≠ 0 ∧ s.spb = s'.spb ∧ s.prev = s'.prev ∧ s.haveprev = s'.haveprev ∧
    execAll (intervalCommands [(128, 255), (0, 128)]) s =
      .next (nextOf (execAll (intervalCommands [(128, 255), (0, 128)]) s)) ∧
    execAll (intervalCommands [(128, 255), (0, 128)]) s' =
      .next (nextOf (execAll (intervalCommands [(128, 255), (0, 128)]) s')) :=
  ⟨by decide, rfl, rfl, rfl, rfl, rfl⟩

/-! ### The parser and the readback -/

theorem wit_preamble :
    (0xFFFFFF1234000013 : Frame).extractLsb' 0 40 = (0x0000001234000013 : Frame).extractLsb' 0 40 ∧
    (0xF : BitVec 4) ≠ 0x5 := by decide
theorem wit_status : (31 : Nat) < 32 := by decide
theorem wit_registers : 12 ≤ (0xC : BitVec 4).toNat ∧ (0x6 : BitVec 4).toNat ≤ 6 := by decide
theorem wit_readout :
    let s : State := { idle 1 with dt := [(0, 9)], nstr := 1, port := readEntry 0 ++ [.reset] }
    (0 : Half).toNat < s.nstr.toNat ∧ s.port = readEntry 0 ++ [.reset] := by decide

/-! ### The whole machine -/

theorem wit_stepInv :
    (opened 1).Inv ∧ step (opened 1) = .next (opened 1) := ⟨opened_inv 1 (by decide), rfl⟩
theorem wit_cannotTouch :
    exec (.sample 0 128 false false) (opened 1) = .next (nextOf (exec (.sample 0 128 false false) (opened 1))) := rfl
theorem wit_causes :
    (idle 1).cerr = false ∧ (idle 1).perr = false ∧ (idle 1).serr = false ∧ (opened 1).Inv ∧ (opened 1).ovf = false :=
  ⟨rfl, rfl, rfl, opened_inv 1 (by decide), rfl⟩
theorem wit_oneError :
    (idle 1).Inv ∧ performWord 0x20000001 (idle 1) = .next ((idle 1).record .cerr) := ⟨idle_inv 1, rfl⟩
theorem wit_cleared :
    let s : State := { idle 1 with ovf := true }
    performWord 0x40000000 s = .next s.newCapture ∧ s.errorBit .ovf = true ∧ s.newCapture.errorBit .ovf = false :=
  ⟨rfl, rfl, rfl⟩
theorem wit_sticky :
    let s := opened 1
    let s' : State := { opened 1 with cerr := true, serr := true }
    sameButErrors s s' ∧ s.errorBit .ovf = s'.errorBit .ovf ∧ exec .endInterval s = .next (nextOf (exec .endInterval s)) ∧
    exec .endInterval s' = .next (nextOf (exec .endInterval s')) := ⟨rfl, rfl, rfl, rfl⟩

end Sys2Proof.Tests
end

section
/-! SUPPORT. PROOFS of the state family: the next state of a command as a function, and the invariant of 10_state.md R44 kept by
every operation, command and step. -/

namespace Sys2Proof.Machine

/-! ### The next state of a command

Every command ends in a next state (60_exceptions.md R220), so a proof about `exec` is a proof about the function `State.after`. -/

/-- The state after a command has been performed; `exec_eq_next` ties it to `exec`. -/
def State.after (s : State) : Instr → State
  | .nop => s
  | .sample ib qb soi eoi =>
    slice Config.params soi eoi (diff s.prev (normalise ib qb) s.haveprev) (s.notePrev (normalise ib qb))
  | .endInterval => if s.ivopen then closeInterval Config.params s else s
  | .setspb w => if w = 0 ∨ s.ivopen = true then s.record .cerr else s.setSpb w
  | .capture => s.newCapture
  | .select k => if k.toNat < s.nstr.toNat then s.selectEntry k else s.record .serr
  | .ldfrm c d => s.loadChunk c d
  | .clrstat => s.clearErrors

theorem exec_eq_next (i : Instr) (s : State) : exec i s = .next (s.after i) := by
  cases i <;> rfl

theorem eq_after_of_exec {i : Instr} {s t : State} (h : exec i s = .next t) : t = s.after i := by
  rw [exec_eq_next] at h
  exact (Host.Outcome.next.inj h).symm

/-! ### The dedup table after DT[NSTR] <- v (42_bit_slicer.md R145) -/

theorem depth_le_65535 (cfg : Config.Params) : cfg.depth ≤ 65535 := by
  unfold Config.Params.depth
  omega

theorem State.addString_read_nstr (s : State) (v : Frame) : (s.addString v).dt.read s.nstr.toNat = v := by
  rw [addString_dt, Memory.read_write_same]

theorem State.addString_read_other {s : State} {k : Nat} (v : Frame) (h : k ≠ s.nstr.toNat) :
    (s.addString v).dt.read k = s.dt.read k := by
  rw [addString_dt, Memory.read_write_other v s.dt h]

/-- NSTR cannot wrap: it is below DEDUP_DEPTH, which is at most 65535. -/
theorem State.addString_nstr_toNat {s : State} {v : Frame} (hroom : s.nstr.toNat < Config.params.depth) :
    (s.addString v).nstr.toNat = s.nstr.toNat + 1 := by
  have hdepth := depth_le_65535 Config.params
  rw [addString_nstr]
  exact BitVec.toNat_add_of_lt (show s.nstr.toNat + 1 < 65536 by omega)

theorem State.read_ne_of_not_hasString {s : State} {v : Frame} {k : Nat} (h : s.hasString v = false)
    (hk : k < s.nstr.toNat) : s.dt.read k ≠ v := fun hv =>
  Bool.false_ne_true (h.symm.trans ((s.hasString_iff v).mpr ⟨k, hk, hv⟩))

/-! ### The invariant under the updates of the state (10_state.md R44)

An update that writes no field the invariant speaks of keeps it field by field: `{ h with }`. -/

theorem isNormalised_zero : isNormalised IQ.zero := by
  simp [isNormalised, IQ.zero]

/-- NORM gives components in -128..127 (41_phase_unwrapper.md R101). -/
theorem isNormalised_normalise (ib qb : Byte) : isNormalised (normalise ib qb) := by
  simp only [isNormalised, normalise]
  omega

theorem wdir_natAbs_le (p v : IQ) : (wdir p v).natAbs ≤ 1 := by
  unfold wdir
  split
  · decide
  · split <;> decide

/-- What the sum of a window needs of a phase difference: it starts at a normalised sample, and WRAP adds at most one turn. -/
def PhaseStep.Bounded (d : PhaseStep) : Prop := isNormalised d.start ∧ d.turns.natAbs ≤ 1

theorem diff_bounded {p v : IQ} (hp : isNormalised p) (hv : isNormalised v) (h : Bool) : (diff p v h).Bounded := by
  cases h with
  | false => exact ⟨hv, Nat.zero_le _⟩
  | true => exact ⟨hp, wdir_natAbs_le p v⟩

/-- R53: the invariant holds at reset. -/
theorem reset_inv : State.reset.Inv where
  memWf := reset_memory_wf
  openSpb h := absurd h Bool.false_ne_true
  openSc h := absurd h Bool.false_ne_true
  closedSc _ := rfl
  accZero _ := rfl
  nstrDepth := Nat.zero_le _
  distinct _ _ _ hk := absurd hk (Nat.not_lt_zero _)
  listed _ hk := absurd hk (Nat.not_lt_zero _)
  indexDepth _ he := absurd he List.not_mem_nil
  openPrev _ := rfl
  noPrev _ := rfl
  prevRange := isNormalised_zero
  refRange := isNormalised_zero
  turnsBound := Nat.le_refl 0

namespace State.Inv

variable {s : State}

theorem withPort (h : s.Inv) (p : List HostAction) : (s.withPort p).Inv := { h with }

theorem reply (h : s.Inv) (w : Word) : (s.reply w).Inv := { h with }

theorem clearErrors (h : s.Inv) : s.clearErrors.Inv := { h with }

theorem record (h : s.Inv) (e : ErrorBit) : (s.record e).Inv := by
  cases e <;> exact { h with }

theorem selectEntry (h : s.Inv) (k : Half) : (s.selectEntry k).Inv := { h with }

theorem loadChunk (h : s.Inv) (c : BitVec 2) (d : Half) : (s.loadChunk c d).Inv := { h with }

theorem resetBlock (s : State) : s.resetBlock.Inv := { reset_inv with }

/-- SPB matters to an open interval only, and SETSPB does not write it then (42_bit_slicer.md R150). -/
theorem setSpb (h : s.Inv) (hc : s.ivopen = false) (w : Half) : (s.setSpb w).Inv :=
  { h with
    openSpb := fun ho => absurd (hc.symm.trans ho) Bool.false_ne_true
    openSc := fun ho => absurd (hc.symm.trans ho) Bool.false_ne_true }

theorem notePrev (h : s.Inv) {v : IQ} (hv : isNormalised v) : (s.notePrev v).Inv :=
  { h with
    openPrev := fun hp => absurd hp.symm Bool.false_ne_true
    noPrev := fun hp => absurd hp.symm Bool.false_ne_true
    prevRange := hv }

theorem abortInterval (h : s.Inv) : s.abortInterval.Inv :=
  { h with
    openSpb := fun ho => absurd ho Bool.false_ne_true
    openSc := fun ho => absurd ho Bool.false_ne_true
    closedSc := fun _ => rfl
    accZero := fun _ => rfl
    openPrev := fun _ => rfl
    refRange := isNormalised_zero
    turnsBound := Nat.le_refl 0 }

theorem openInterval (h : s.Inv) (hspb : s.spb ≠ 0) (hp : s.haveprev = true) : s.openInterval.Inv :=
  have hpos : 0 < s.spb.toNat := Nat.pos_of_ne_zero fun h0 => hspb (BitVec.eq_of_toNat_eq h0)
  { h with
    openSpb := fun _ => hpos
    openSc := fun _ => hpos
    closedSc := fun _ => rfl
    accZero := fun _ => rfl
    openPrev := fun hn => absurd (hn.symm.trans hp) Bool.false_ne_true
    refRange := isNormalised_zero
    turnsBound := Nat.le_refl 0 }

/-- The end of a window: an open interval needs SPB of at least 1, so SC = 0 is below it. -/
theorem dump (h : s.Inv) (b : Bool) : (s.dump b).Inv :=
  { h with
    openSc := fun ho => h.openSpb ho
    closedSc := fun _ => rfl
    accZero := fun _ => rfl
    refRange := isNormalised_zero
    turnsBound := Nat.le_refl 0 }

/-- The table and the open interval are cleared; the storage of DT keeps its form (44_control.md R201). -/
theorem newCapture (h : s.Inv) : s.newCapture.Inv :=
  { h.abortInterval with
    nstrDepth := Nat.zero_le _
    distinct := fun _ _ _ hk => absurd hk (Nat.not_lt_zero _)
    listed := fun _ hk => absurd hk (Nat.not_lt_zero _)
    openPrev := fun _ => rfl
    noPrev := fun _ => rfl
    prevRange := isNormalised_zero }

/-! ### The invariant under the shared operations -/

/-- A window that goes on: one more sample, at most one more turn, and not yet SPB samples. -/
theorem holdSum_add (h : s.Inv) (ho : s.ivopen = true) (hsc : s.sc + 1 ≠ s.spb.toNat) {d : PhaseStep}
    (hd : d.Bounded) : (s.holdSum (s.acc.add (s.sc == 0) d)).Inv := by
  obtain ⟨hstart, hturns⟩ := hd
  have hlt := h.openSc ho
  have hbound := h.turnsBound
  have hsum : isNormalised (s.acc.add (s.sc == 0) d).ref ∧ (s.acc.add (s.sc == 0) d).turns.natAbs ≤ s.sc + 1 := by
    unfold PhaseAcc.add
    split
    · exact ⟨hstart, by simp only; omega⟩
    · exact ⟨h.refRange, by simp only; omega⟩
  exact { h with
    openSc := fun _ => show s.sc + 1 < s.spb.toNat by omega
    closedSc := fun hc => absurd (hc.symm.trans ho) Bool.false_ne_true
    accZero := fun h0 => absurd h0 (Nat.succ_ne_zero _)
    refRange := hsum.1
    turnsBound := hsum.2 }

theorem accum (h : s.Inv) (ho : s.ivopen = true) {d : PhaseStep} (hd : d.Bounded) : (accum d s).Inv := by
  obtain ⟨hsc, hres⟩ | ⟨-, hres⟩ := accum_cases d s
  · rw [hres]
    exact h.holdSum_add ho hsc hd
  · rw [hres]
    exact h.dump _

/-- A new string at index NSTR: below it the table reads as before, at it the new string, which was not there (R44 d). -/
theorem addString (h : s.Inv) {v : Frame} (hnew : s.hasString v = false)
    (hroom : s.nstr.toNat < Config.params.depth) : (s.addString v).Inv := by
  have hnstr := addString_nstr_toNat (v := v) hroom
  refine { h with
    memWf := Memory.wf_write _ _ _ h.memWf
    nstrDepth := hnstr ▸ hroom
    distinct := ?distinct, listed := ?listed, indexDepth := ?indexDepth }
  case distinct =>
    intro j k hjk hk
    rw [hnstr] at hk
    rw [addString_read_other v (by omega : j ≠ s.nstr.toNat)]
    obtain hold | rfl := Nat.lt_succ_iff_lt_or_eq.mp hk
    · rw [addString_read_other v hold.ne]
      exact h.distinct j k hjk hold
    · rw [addString_read_nstr]
      exact read_ne_of_not_hasString hnew hjk
  case listed =>
    intro k hk
    rw [hnstr] at hk
    obtain hold | rfl := Nat.lt_succ_iff_lt_or_eq.mp hk
    · rw [addString_dt, Memory.lookup_write_other v s.dt hold.ne]
      exact h.listed k hold
    · rw [addString_dt, Memory.lookup_write_same]
      rfl
  case indexDepth =>
    intro e he
    obtain rfl | hold := Memory.mem_write he
    · exact hroom
    · exact h.indexDepth e hold

theorem dedupInsert (h : s.Inv) (v : Frame) : (dedupInsert Config.params v s).Inv := by
  obtain ⟨-, hres⟩ | ⟨hnew, hroom, hres⟩ | ⟨-, -, hres⟩ := dedupInsert_cases Config.params v s
  · rw [hres]
    exact h
  · rw [hres]
    exact h.addString hnew hroom
  · rw [hres]
    exact h.record .ovf

theorem closeInterval (h : s.Inv) : (closeInterval Config.params s).Inv := by
  obtain ⟨-, hres⟩ | ⟨-, hres⟩ := closeInterval_cases Config.params s
  · rw [hres]
    exact (h.dedupInsert _).abortInterval
  · rw [hres]
    exact h.abortInterval

theorem accumClose (h : s.Inv) (ho : s.ivopen = true) (eoi : Bool) {d : PhaseStep} (hd : d.Bounded) :
    (accumClose Config.params eoi d s).Inv := by
  cases eoi with
  | false => exact h.accum ho hd
  | true => exact (h.accum ho hd).closeInterval

theorem abortUnclosed (h : s.Inv) : (abortUnclosed s).Inv := by
  obtain ⟨-, hres⟩ | ⟨-, hres⟩ := abortUnclosed_cases s
  · rw [hres]
    exact (h.record .perr).abortInterval
  · rw [hres]
    exact h

end State.Inv

theorem abortUnclosed_spb (s : State) : (abortUnclosed s).spb = s.spb := by
  obtain ⟨-, hres⟩ | ⟨-, hres⟩ := abortUnclosed_cases s <;> simp [hres]

theorem abortUnclosed_haveprev (s : State) : (abortUnclosed s).haveprev = s.haveprev := by
  obtain ⟨-, hres⟩ | ⟨-, hres⟩ := abortUnclosed_cases s <;> simp [hres]

namespace State.Inv

variable {s : State}

/-- SLICE runs after PREV is noted, so HAVEPREV = 1 when it opens an interval (R44 e). -/
theorem slice (h : s.Inv) (hp : s.haveprev = true) (soi eoi : Bool) {d : PhaseStep} (hd : d.Bounded) :
    (slice Config.params soi eoi d s).Inv := by
  obtain ⟨-, -, hres⟩ | ⟨-, hspb, hres⟩ | ⟨-, -, -, hres⟩ | ⟨-, ho, hres⟩ | ⟨-, -, -, hres⟩ :=
    slice_cases Config.params soi eoi d s
  · rw [hres]
    exact h.abortUnclosed.record .perr
  · have hopen : (Machine.abortUnclosed s).openInterval.Inv :=
      h.abortUnclosed.openInterval (abortUnclosed_spb s ▸ hspb) ((abortUnclosed_haveprev s).trans hp)
    rw [hres]
    exact hopen.accumClose rfl eoi hd
  · rw [hres]
    exact h.record .perr
  · rw [hres]
    exact h.accumClose ho eoi hd
  · rw [hres]
    exact h

/-! ### The invariant under the commands and the step -/

theorem after (h : s.Inv) (i : Instr) : (s.after i).Inv := by
  cases i with
  | nop => exact h
  | sample ib qb soi eoi =>
    have hv := isNormalised_normalise ib qb
    exact (h.notePrev hv).slice rfl soi eoi (diff_bounded h.prevRange hv s.haveprev)
  | endInterval =>
    simp only [State.after]
    split
    · exact h.closeInterval
    · exact h
  | setspb w =>
    simp only [State.after]
    split
    next => exact h.record .cerr
    next hok => exact h.setSpb (by simpa using fun ho => hok (.inr ho)) w
  | capture => exact h.newCapture
  | select k =>
    simp only [State.after]
    split
    · exact h.selectEntry k
    · exact h.record .serr
  | ldfrm c d => exact h.loadChunk c d
  | clrstat => exact h.clearErrors

theorem performWord {t : State} (h : s.Inv) {w : Word} (hw : performWord w s = .next t) : t.Inv := by
  unfold Machine.performWord at hw
  split at hw
  next i _ => exact eq_after_of_exec hw ▸ h.after i
  next => exact Host.Outcome.next.inj hw ▸ h.record .cerr

theorem performAction {t : State} (h : s.Inv) {a : HostAction} (ha : performAction a s = .next t) : t.Inv := by
  cases a with
  | write w => exact h.performWord ha
  | read reg => exact Host.Outcome.next.inj ha ▸ h.reply _
  | reset => exact Host.Outcome.next.inj ha ▸ State.Inv.resetBlock s

theorem step {t : State} (h : s.Inv) (hs : step s = .next t) : t.Inv := by
  unfold Machine.step stepPort at hs
  split at hs
  next => exact Host.Outcome.next.inj hs ▸ h
  next a rest _ => exact (h.withPort rest).performAction hs

end State.Inv

/-- Settles O53: each operation keeps the invariant, so each command does, and a step performs one action of the host. -/
theorem everyStepKeepsTheInvariant : Obligations.EveryStepKeepsTheInvariant :=
  fun _ _ hs hstep => hs.step hstep

/-- Settles O52. -/
theorem invariantHoldsAtReset : Obligations.InvariantHoldsAtReset := reset_inv

end Sys2Proof.Machine
end

section
/-! SUPPORT. PROOFS of the state family: what a command leaves unchanged, and that no command reads a sticky bit (10_state.md R33,
R34, R41 to R43; 20_memory.md R63). -/

namespace Sys2Proof.Machine

/-! ### What the slicer's operations leave unchanged -/

/-- The two states agree on what no operation of the slicer writes: SPB, PREV, HAVEPREV, FRM, SEL and the ports. -/
structure SlicerKeeps (s t : State) : Prop where
  spb : t.spb = s.spb
  prev : t.prev = s.prev
  haveprev : t.haveprev = s.haveprev
  sel : t.sel = s.sel
  frm : t.frm = s.frm
  port : t.port = s.port
  replies : t.replies = s.replies

namespace SlicerKeeps

variable {s t u : State}

theorem refl (s : State) : SlicerKeeps s s := ⟨rfl, rfl, rfl, rfl, rfl, rfl, rfl⟩

theorem trans (h : SlicerKeeps s t) (h' : SlicerKeeps t u) : SlicerKeeps s u where
  spb := h'.spb.trans h.spb
  prev := h'.prev.trans h.prev
  haveprev := h'.haveprev.trans h.haveprev
  sel := h'.sel.trans h.sel
  frm := h'.frm.trans h.frm
  port := h'.port.trans h.port
  replies := h'.replies.trans h.replies

theorem record (s : State) (e : ErrorBit) : SlicerKeeps s (s.record e) := by
  cases e <;> exact { refl s with }

theorem abortInterval (s : State) : SlicerKeeps s s.abortInterval := { refl s with }

theorem openInterval (s : State) : SlicerKeeps s s.openInterval := { refl s with }

theorem addString (s : State) (v : Frame) : SlicerKeeps s (s.addString v) := { refl s with }

theorem accum (d : PhaseStep) (s : State) : SlicerKeeps s (accum d s) := by
  obtain ⟨-, hres⟩ | ⟨-, hres⟩ := accum_cases d s
  · rw [hres]
    exact { refl s with }
  · rw [hres]
    exact { refl s with }

theorem dedupInsert (cfg : Config.Params) (v : Frame) (s : State) : SlicerKeeps s (dedupInsert cfg v s) := by
  obtain ⟨-, hres⟩ | ⟨-, -, hres⟩ | ⟨-, -, hres⟩ := dedupInsert_cases cfg v s
  · rw [hres]
    exact refl s
  · rw [hres]
    exact addString s v
  · rw [hres]
    exact record s .ovf

theorem closeInterval (cfg : Config.Params) (s : State) : SlicerKeeps s (closeInterval cfg s) := by
  obtain ⟨-, hres⟩ | ⟨-, hres⟩ := closeInterval_cases cfg s
  · rw [hres]
    exact (dedupInsert cfg s.shr s).trans (abortInterval _)
  · rw [hres]
    exact abortInterval s

theorem accumClose (cfg : Config.Params) (eoi : Bool) (d : PhaseStep) (s : State) :
    SlicerKeeps s (accumClose cfg eoi d s) := by
  cases eoi with
  | false => exact accum d s
  | true => exact (accum d s).trans (closeInterval cfg _)

theorem abortUnclosed (s : State) : SlicerKeeps s (abortUnclosed s) := by
  obtain ⟨-, hres⟩ | ⟨-, hres⟩ := abortUnclosed_cases s
  · rw [hres]
    exact (record s .perr).trans (abortInterval _)
  · rw [hres]
    exact refl s

theorem slice (cfg : Config.Params) (soi eoi : Bool) (d : PhaseStep) (s : State) :
    SlicerKeeps s (slice cfg soi eoi d s) := by
  obtain ⟨-, -, hres⟩ | ⟨-, -, hres⟩ | ⟨-, -, -, hres⟩ | ⟨-, -, hres⟩ | ⟨-, -, -, hres⟩ := slice_cases cfg soi eoi d s
  · rw [hres]
    exact (abortUnclosed s).trans (record _ .perr)
  · rw [hres]
    exact ((abortUnclosed s).trans (openInterval _)).trans (accumClose cfg eoi d _)
  · rw [hres]
    exact record s .perr
  · rw [hres]
    exact accumClose cfg eoi d s
  · rw [hres]
    exact refl s

end SlicerKeeps

/-! ### The dedup table under the slicer's operations (20_memory.md R63) -/

@[simp] theorem accum_dt (d : PhaseStep) (s : State) : (accum d s).dt = s.dt := by
  obtain ⟨-, hres⟩ | ⟨-, hres⟩ := accum_cases d s <;> simp [hres]

@[simp] theorem accum_nstr (d : PhaseStep) (s : State) : (accum d s).nstr = s.nstr := by
  obtain ⟨-, hres⟩ | ⟨-, hres⟩ := accum_cases d s <;> simp [hres]

@[simp] theorem abortUnclosed_dt (s : State) : (abortUnclosed s).dt = s.dt := by
  obtain ⟨-, hres⟩ | ⟨-, hres⟩ := abortUnclosed_cases s <;> simp [hres]

@[simp] theorem abortUnclosed_nstr (s : State) : (abortUnclosed s).nstr = s.nstr := by
  obtain ⟨-, hres⟩ | ⟨-, hres⟩ := abortUnclosed_cases s <;> simp [hres]

section
variable {s : State} {k : Nat}

theorem dedupInsert_read_other (cfg : Config.Params) (v : Frame) (hk : k ≠ s.nstr.toNat) :
    (dedupInsert cfg v s).dt.read k = s.dt.read k := by
  obtain ⟨-, hres⟩ | ⟨-, -, hres⟩ | ⟨-, -, hres⟩ := dedupInsert_cases cfg v s
  · rw [hres]
  · rw [hres, State.addString_read_other v hk]
  · rw [hres, State.record_dt]

theorem closeInterval_read_other (cfg : Config.Params) (hk : k ≠ s.nstr.toNat) :
    (closeInterval cfg s).dt.read k = s.dt.read k := by
  obtain ⟨-, hres⟩ | ⟨-, hres⟩ := closeInterval_cases cfg s
  · rw [hres, State.abortInterval_dt, dedupInsert_read_other cfg _ hk]
  · rw [hres, State.abortInterval_dt]

theorem accumClose_read_other (cfg : Config.Params) (eoi : Bool) (d : PhaseStep) (hk : k ≠ s.nstr.toNat) :
    (accumClose cfg eoi d s).dt.read k = s.dt.read k := by
  cases eoi with
  | false => exact congrArg (Memory.read · k) (accum_dt d s)
  | true =>
    have hk' : k ≠ (accum d s).nstr.toNat := by rwa [accum_nstr]
    exact (closeInterval_read_other cfg hk').trans (congrArg (Memory.read · k) (accum_dt d s))

theorem slice_read_other (cfg : Config.Params) (soi eoi : Bool) (d : PhaseStep) (hk : k ≠ s.nstr.toNat) :
    (slice cfg soi eoi d s).dt.read k = s.dt.read k := by
  obtain ⟨-, -, hres⟩ | ⟨-, -, hres⟩ | ⟨-, -, -, hres⟩ | ⟨-, -, hres⟩ | ⟨-, -, -, hres⟩ := slice_cases cfg soi eoi d s
  · rw [hres, State.record_dt, abortUnclosed_dt]
  · have hk' : k ≠ (abortUnclosed s).openInterval.nstr.toNat := by simpa using hk
    rw [hres, accumClose_read_other cfg eoi d hk', State.openInterval_dt, abortUnclosed_dt]
  · rw [hres, State.record_dt]
  · rw [hres, accumClose_read_other cfg eoi d hk]
  · rw [hres]

end

/-- Without EOI nothing is closed: an interval that SOI finds open is aborted, and its string is not inserted (R136). -/
theorem slice_dt_of_not_eoi (cfg : Config.Params) (soi : Bool) (d : PhaseStep) (s : State) :
    (slice cfg soi false d s).dt = s.dt := by
  have haccum (u : State) : (accumClose cfg false d u).dt = u.dt := accum_dt d u
  obtain ⟨-, -, hres⟩ | ⟨-, -, hres⟩ | ⟨-, -, -, hres⟩ | ⟨-, -, hres⟩ | ⟨-, -, -, hres⟩ :=
    slice_cases cfg soi false d s <;> simp [hres, haccum]

/-! ### What a command leaves unchanged -/

namespace State

variable (s : State) {i : Instr}

/-- END is the slicer's: it closes the interval, or does nothing. -/
theorem after_endInterval_keeps : SlicerKeeps s (s.after .endInterval) := by
  simp only [after]
  split
  · exact .closeInterval _ s
  · exact .refl s

/-- SAMPLE is the slicer's after PREV and HAVEPREV have been written. -/
theorem after_sample_keeps (ib qb : Byte) (soi eoi : Bool) :
    SlicerKeeps (s.notePrev (normalise ib qb)) (s.after (.sample ib qb soi eoi)) :=
  .slice _ soi eoi _ _

theorem after_spb (h : ∀ w, i ≠ .setspb w) : (s.after i).spb = s.spb := by
  cases i with
  | setspb w => exact absurd rfl (h w)
  | sample ib qb soi eoi => exact (s.after_sample_keeps ib qb soi eoi).spb
  | endInterval => exact s.after_endInterval_keeps.spb
  | select k => simp [after, apply_ite State.spb]
  | nop | capture | ldfrm | clrstat => rfl

theorem after_sel (h : ∀ k, i ≠ .select k) : (s.after i).sel = s.sel := by
  cases i with
  | select k => exact absurd rfl (h k)
  | sample ib qb soi eoi => exact (s.after_sample_keeps ib qb soi eoi).sel
  | endInterval => exact s.after_endInterval_keeps.sel
  | setspb w => simp [after, apply_ite State.sel]
  | nop | capture | ldfrm | clrstat => rfl

theorem after_frm (hs : ∀ k, i ≠ .select k) (hl : ∀ c d, i ≠ .ldfrm c d) : (s.after i).frm = s.frm := by
  cases i with
  | select k => exact absurd rfl (hs k)
  | ldfrm c d => exact absurd rfl (hl c d)
  | sample ib qb soi eoi => exact (s.after_sample_keeps ib qb soi eoi).frm
  | endInterval => exact s.after_endInterval_keeps.frm
  | setspb w => simp [after, apply_ite State.frm]
  | nop | capture | clrstat => rfl

theorem after_prev (hs : ∀ ib qb soi eoi, i ≠ .sample ib qb soi eoi) (hc : i ≠ .capture) :
    (s.after i).prev = s.prev ∧ (s.after i).haveprev = s.haveprev := by
  cases i with
  | sample ib qb soi eoi => exact absurd rfl (hs ib qb soi eoi)
  | capture => exact absurd rfl hc
  | endInterval => exact ⟨s.after_endInterval_keeps.prev, s.after_endInterval_keeps.haveprev⟩
  | setspb w => simp [after, apply_ite State.prev, apply_ite State.haveprev]
  | select k => simp [after, apply_ite State.prev, apply_ite State.haveprev]
  | nop | ldfrm | clrstat => exact ⟨rfl, rfl⟩

theorem after_dt (hs : ∀ ib qb soi, i ≠ .sample ib qb soi true) (he : i ≠ .endInterval) :
    (s.after i).dt = s.dt := by
  cases i with
  | sample ib qb soi eoi =>
    cases eoi with
    | true => exact absurd rfl (hs ib qb soi)
    | false => exact slice_dt_of_not_eoi _ soi _ _
  | endInterval => exact absurd rfl he
  | setspb w => simp [after, apply_ite State.dt]
  | select k => simp [after, apply_ite State.dt]
  | nop | capture | ldfrm | clrstat => rfl

theorem after_read_other {k : Nat} (hk : k ≠ s.nstr.toNat) (i : Instr) : (s.after i).dt.read k = s.dt.read k := by
  cases i with
  | sample ib qb soi eoi => exact slice_read_other _ soi eoi _ hk
  | endInterval =>
    simp only [after]
    split
    · exact closeInterval_read_other _ hk
    · rfl
  | setspb w => simp [after, apply_ite State.dt]
  | select k => simp [after, apply_ite State.dt]
  | nop | capture | ldfrm | clrstat => rfl

theorem after_ports (i : Instr) : (s.after i).port = s.port ∧ (s.after i).replies = s.replies := by
  cases i with
  | sample ib qb soi eoi =>
    exact ⟨(s.after_sample_keeps ib qb soi eoi).port, (s.after_sample_keeps ib qb soi eoi).replies⟩
  | endInterval => exact ⟨s.after_endInterval_keeps.port, s.after_endInterval_keeps.replies⟩
  | setspb w => simp [after, apply_ite State.port, apply_ite State.replies]
  | select k => simp [after, apply_ite State.port, apply_ite State.replies]
  | nop | capture | ldfrm | clrstat => exact ⟨rfl, rfl⟩

end State

/-- Settles O54, clause by clause. -/
theorem whatACommandCannotTouch : Obligations.WhatACommandCannotTouch := by
  intro i s t hexec
  obtain rfl := eq_after_of_exec hexec
  exact ⟨s.after_spb, fun hs => ⟨s.after_sel hs, s.after_frm hs⟩, s.after_prev, s.after_dt,
    fun _ hk => s.after_read_other hk i, s.after_ports i⟩

/-! ### No operation reads a sticky bit (10_state.md R43) -/

/-- From states that agree on everything but the sticky bits, `f` answers such states, and a sticky bit equal before is equal after. -/
def IgnoresErrors (f : State → State) : Prop :=
  ∀ s s' : State, sameButErrors s s' →
    sameButErrors (f s) (f s') ∧ ∀ e : ErrorBit, s.errorBit e = s'.errorBit e → (f s).errorBit e = (f s').errorBit e

/-- A function of the state that does not depend on the sticky bits: it has the same value once they are cleared. -/
def ErrorFree {α : Type} (v : State → α) : Prop := ∀ s : State, v s.clearErrors = v s

theorem ErrorFree.eq {α : Type} {v : State → α} (hv : ErrorFree v) {s s' : State} (h : sameButErrors s s') :
    v s = v s' :=
  calc v s = v s.clearErrors := (hv s).symm
    _ = v s'.clearErrors := congrArg v h
    _ = v s' := hv s'

namespace IgnoresErrors

variable {f g : State → State}

theorem id : IgnoresErrors fun s => s := fun _ _ h => ⟨h, fun _ he => he⟩

theorem comp (hg : IgnoresErrors g) (hf : IgnoresErrors f) : IgnoresErrors fun s => g (f s) := by
  intro s s' h
  obtain ⟨hrest, hbits⟩ := hf s s' h
  obtain ⟨hrest', hbits'⟩ := hg _ _ hrest
  exact ⟨hrest', fun e he => hbits' e (hbits e he)⟩

theorem ite {p : State → Prop} [DecidablePred p] (hp : ErrorFree p) (hf : IgnoresErrors f) (hg : IgnoresErrors g) :
    IgnoresErrors fun s => if p s then f s else g s := by
  intro s s' h
  have hiff : p s = p s' := hp.eq h
  by_cases hs : p s
  · have hs' : p s' := hiff ▸ hs
    simpa only [if_pos hs, if_pos hs'] using hf s s' h
  · have hs' : ¬ p s' := hiff ▸ hs
    simpa only [if_neg hs, if_neg hs'] using hg s s' h

/-- An operation whose argument is computed from the rest of the state. -/
theorem withArg {α : Type} {F : α → State → State} {v : State → α} (hv : ErrorFree v) (hF : ∀ a, IgnoresErrors (F a)) :
    IgnoresErrors fun s => F (v s) s := by
  intro s s' h
  have harg : v s = v s' := hv.eq h
  simpa only [harg] using hF (v s') s s' h

/-- An update of the state: its result outside the sticky bits does not depend on them, and each sticky bit after it is a function of
the same bit before it. -/
theorem of_update (bit : ErrorBit → Bool → Bool) (hrest : ErrorFree fun s => (f s).clearErrors)
    (hbits : ∀ s e, (f s).errorBit e = bit e (s.errorBit e)) : IgnoresErrors f := by
  intro s s' h
  refine ⟨hrest.eq h, fun e he => ?_⟩
  rw [hbits, hbits, he]

/-- An update that writes no sticky bit. -/
theorem of_update_rest (hrest : ErrorFree fun s => (f s).clearErrors) (hbits : ∀ s e, (f s).errorBit e = s.errorBit e) :
    IgnoresErrors f :=
  of_update (fun _ b => b) hrest hbits

theorem record (e : ErrorBit) : IgnoresErrors (·.record e) :=
  of_update (fun e' b => b || decide (e' = e)) (fun _ => by cases e <;> rfl) fun s e' => by
    cases e <;> cases e' <;> simp [State.errorBit]

theorem clearErrors : IgnoresErrors State.clearErrors :=
  of_update (fun _ _ => false) (fun _ => rfl) fun _ e => by cases e <;> rfl

theorem newCapture : IgnoresErrors State.newCapture :=
  of_update (fun e b => b && decide (e ≠ .ovf)) (fun _ => rfl) fun s e => by
    cases e <;> simp [State.errorBit]

theorem abortInterval : IgnoresErrors State.abortInterval :=
  of_update_rest (fun _ => rfl) fun _ e => by cases e <;> rfl

theorem openInterval : IgnoresErrors State.openInterval :=
  of_update_rest (fun _ => rfl) fun _ e => by cases e <;> rfl

theorem addString (v : Frame) : IgnoresErrors (·.addString v) :=
  of_update_rest (fun _ => rfl) fun _ e => by cases e <;> rfl

theorem dump (b : Bool) : IgnoresErrors (·.dump b) :=
  of_update_rest (fun _ => rfl) fun _ e => by cases e <;> rfl

theorem holdSum (a : PhaseAcc) : IgnoresErrors (·.holdSum a) :=
  of_update_rest (fun _ => rfl) fun _ e => by cases e <;> rfl

theorem notePrev (v : IQ) : IgnoresErrors (·.notePrev v) :=
  of_update_rest (fun _ => rfl) fun _ e => by cases e <;> rfl

theorem setSpb (w : Half) : IgnoresErrors (·.setSpb w) :=
  of_update_rest (fun _ => rfl) fun _ e => by cases e <;> rfl

theorem selectEntry (k : Half) : IgnoresErrors (·.selectEntry k) :=
  of_update_rest (fun _ => rfl) fun _ e => by cases e <;> rfl

theorem loadChunk (c : BitVec 2) (d : Half) : IgnoresErrors (·.loadChunk c d) :=
  of_update_rest (fun _ => rfl) fun _ e => by cases e <;> rfl

theorem dedupInsert (cfg : Config.Params) (v : Frame) : IgnoresErrors (dedupInsert cfg v) :=
  ite (fun _ => rfl) id (ite (fun _ => rfl) (addString v) (record .ovf))

theorem closeInterval (cfg : Config.Params) : IgnoresErrors (closeInterval cfg) :=
  ite (fun _ => rfl) (abortInterval.comp (withArg (v := State.shr) (fun _ => rfl) (dedupInsert cfg))) abortInterval

theorem accum (d : PhaseStep) : IgnoresErrors (accum d) :=
  ite (fun _ => rfl)
    (withArg (v := fun s => (s.acc.add (s.sc == 0) d).isPos d.stop) (fun _ => rfl) dump)
    (withArg (v := fun s => s.acc.add (s.sc == 0) d) (fun _ => rfl) holdSum)

theorem accumClose (cfg : Config.Params) (eoi : Bool) (d : PhaseStep) : IgnoresErrors (accumClose cfg eoi d) := by
  cases eoi with
  | false => exact accum d
  | true => exact (closeInterval cfg).comp (accum d)

theorem abortUnclosed : IgnoresErrors abortUnclosed :=
  ite (fun _ => rfl) (abortInterval.comp (record .perr)) id

theorem slice (cfg : Config.Params) (soi eoi : Bool) (d : PhaseStep) : IgnoresErrors (slice cfg soi eoi d) := by
  cases soi with
  | true =>
    have hspb : ErrorFree fun s => (Machine.abortUnclosed s).spb = 0 := fun s => by
      simp only [abortUnclosed_spb, State.clearErrors_spb]
    exact ite (p := fun s => (Machine.abortUnclosed s).spb = 0) hspb ((record .perr).comp abortUnclosed)
      (((accumClose cfg eoi d).comp openInterval).comp abortUnclosed)
  | false =>
    exact ite (p := fun s => (eoi && !s.ivopen) = true) (fun _ => rfl) (record .perr)
      (ite (fun _ => rfl) (accumClose cfg eoi d) id)

theorem after (i : Instr) : IgnoresErrors (·.after i) := by
  cases i with
  | nop => exact id
  | sample ib qb soi eoi =>
    exact withArg (v := fun s => diff s.prev (normalise ib qb) s.haveprev) (fun _ => rfl)
      fun d => (slice Config.params soi eoi d).comp (notePrev (normalise ib qb))
  | endInterval => exact ite (fun _ => rfl) (closeInterval Config.params) id
  | setspb w => exact ite (fun _ => rfl) (record .cerr) (setSpb w)
  | capture => exact newCapture
  | select k => exact ite (fun _ => rfl) (selectEntry k) (record .serr)
  | ldfrm c d => exact loadChunk c d
  | clrstat => exact clearErrors

end IgnoresErrors

/-- Settles O60. -/
theorem stickyBitsNeverChangeACommand : Obligations.StickyBitsNeverChangeACommand := by
  intro i s s' t t' hsame hexec hexec'
  obtain rfl := eq_after_of_exec hexec
  obtain rfl := eq_after_of_exec hexec'
  exact IgnoresErrors.after i s s' hsame

end Sys2Proof.Machine
end

section
/-! SUPPORT. PROOFS of the state family: the readback registers bit by bit and field by field (10_state.md R45 to R51). -/

namespace Sys2Proof.Machine

/-! ### A field placed in a word -/

theorem getLsbD_place (lo : Nat) {n : Nat} (x : BitVec n) (j : Nat) :
    (place lo x).getLsbD j = (decide (j < 32) && decide (lo ≤ j) && x.getLsbD (j - lo)) := by
  simp only [place, BitVec.getLsbD_shiftLeft, BitVec.getLsbD_setWidth]
  by_cases hj : j < 32
  · by_cases hlo : j < lo
    · simp [hj, hlo]
    · simp [hj, hlo, Nat.le_of_not_lt hlo, (by omega : j - lo < 32)]
  · simp [hj]

/-- A placed flag is one bit of the word. -/
theorem getLsbD_place_ofBool {lo : Nat} (hlo : lo < 32) (b : Bool) (j : Nat) :
    (place lo (BitVec.ofBool b)).getLsbD j = (decide (j = lo) && b) := by
  have hbit : (decide (j < 32) && decide (lo ≤ j) && decide (j - lo = 0)) = decide (j = lo) := by
    simp only [← Bool.decide_and, decide_eq_decide]
    omega
  rw [getLsbD_place, BitVec.getLsbD_ofBool, ← Bool.and_assoc, hbit]

/-- A field is read back from the bits it was placed at. -/
theorem extractLsb'_place_same {lo n : Nat} (x : BitVec n) (h : lo + n ≤ 32) :
    (place lo x).extractLsb' lo n = x := by
  refine BitVec.eq_of_getLsbD_eq fun j hj => ?_
  rw [BitVec.getLsbD_extractLsb', getLsbD_place, Nat.add_sub_cancel_left]
  simp [hj, (by omega : lo + j < 32)]

/-- Bits that do not meet the placed field read 0. -/
theorem extractLsb'_place_disjoint {lo n start len : Nat} (x : BitVec n) (h : start + len ≤ lo ∨ lo + n ≤ start) :
    (place lo x).extractLsb' start len = 0 := by
  refine BitVec.eq_of_getLsbD_eq fun j hj => ?_
  rw [BitVec.getLsbD_extractLsb', getLsbD_place, BitVec.ofNat_eq_ofNat, BitVec.getLsbD_zero]
  obtain hbelow | habove := h
  · have hlo : ¬ lo ≤ start + j := by omega
    simp only [hlo, decide_false, Bool.and_false, Bool.false_and]
  · have hzero : x.getLsbD (start + j - lo) = false := BitVec.getLsbD_of_ge x _ (by omega)
    rw [hzero, Bool.and_false, Bool.and_false]

theorem place_zero {n : Nat} (x : BitVec n) : place 0 x = BitVec.ofNat 32 x.toNat := by
  simp [place]

theorem toNat_place {lo n : Nat} (x : BitVec n) (h : lo + n ≤ 32) : (place lo x).toNat = x.toNat <<< lo := by
  have hpow : 2 ^ (n + lo) ≤ 2 ^ 32 := Nat.pow_le_pow_right (by decide) (by omega)
  have hlt : x.toNat <<< lo < 2 ^ 32 := by
    refine Nat.lt_of_lt_of_le ?_ hpow
    rw [Nat.shiftLeft_eq, Nat.pow_add]
    exact Nat.mul_lt_mul_of_pos_right x.isLt (Nat.two_pow_pos lo)
  have hx : x.toNat < 2 ^ 32 := Nat.lt_of_lt_of_le x.isLt (Nat.pow_le_pow_right (by decide) (by omega))
  rw [place, BitVec.toNat_shiftLeft, BitVec.toNat_setWidth, Nat.mod_eq_of_lt hx, Nat.mod_eq_of_lt hlt]

/-- Two fields side by side are a sum. -/
theorem place_or_place_zero {n lo : Nat} (x : BitVec n) (y : BitVec lo) (h : lo + n ≤ 32) :
    place lo x ||| place 0 y = BitVec.ofNat 32 (x.toNat * 2 ^ lo + y.toNat) := by
  have hsum : (place lo x ||| place 0 y).toNat = x.toNat * 2 ^ lo + y.toNat := by
    rw [BitVec.toNat_or, toNat_place x h, toNat_place y (by omega), Nat.shiftLeft_zero,
      ← Nat.shiftLeft_add_eq_or_of_lt y.isLt, Nat.shiftLeft_eq]
  rw [← hsum, BitVec.ofNat_toNat, BitVec.setWidth_eq]

/-! ### STATUS (R45) -/

theorem getLsbD_status (s : State) (j : Nat) :
    s.status.getLsbD j =
      if j = 0 then s.ivopen else if j = 1 then s.haveprev
      else if j = 8 then s.cerr else if j = 9 then s.perr else if j = 10 then s.ovf else if j = 11 then s.serr
      else false := by
  simp only [State.status, BitVec.getLsbD_or, getLsbD_place_ofBool, Nat.reduceLT]
  split_ifs <;> simp_all

/-- Settles O47. -/
theorem statusRegister : Obligations.StatusRegister :=
  ⟨fun s j _ => getLsbD_status s j, by decide⟩

/-! ### SYNC (R48) -/

section
variable (cfg : Config.Params) (f : Frame)

theorem syncReg_sync : (syncReg cfg f).extractLsb' 0 16 = frameSync f := by
  simp [syncReg, BitVec.extractLsb'_or, extractLsb'_place_same, extractLsb'_place_disjoint]

theorem syncReg_syncOk : (syncReg cfg f).getLsbD 16 = frameSyncOk cfg f := by
  simp only [syncReg, BitVec.getLsbD_or, getLsbD_place]
  simp

theorem syncReg_syncOk_iff : (syncReg cfg f).getLsbD 16 = true ↔ frameSync f = cfg.syncWord := by
  rw [syncReg_syncOk]
  exact beq_iff_eq

theorem syncReg_unused : (syncReg cfg f).extractLsb' 17 15 = 0 := by
  simp [syncReg, BitVec.extractLsb'_or, extractLsb'_place_disjoint]

/-- The frame is 0 at reset, so SYNC_OK is whether SYNC_WORD is 0. -/
theorem syncReg_zero : syncReg cfg 0 = if cfg.syncWord = 0 then 0x00010000 else 0 := by
  have hok : frameSyncOk cfg 0 = decide (cfg.syncWord = 0) := by
    rw [eq_comm]
    exact decide_eq_decide.mpr eq_comm
  by_cases h : cfg.syncWord = 0
  · rw [syncReg, hok, if_pos h, decide_eq_true h]
    rfl
  · rw [syncReg, hok, if_neg h, decide_eq_false h]
    rfl

end

/-- Settles O46. -/
theorem syncRegister : Obligations.SyncRegister := fun s =>
  ⟨syncReg_sync _ s.frm, syncReg_syncOk_iff _ s.frm, syncReg_unused _ s.frm, syncReg_zero _⟩

/-! ### CMDBAT (R50, R177, R178) -/

section
variable (cfg : Config.Params) (f : Frame)

theorem cmdbatReg_cmdraw : (cmdbatReg cfg f).extractLsb' 0 3 = frameCmdraw f := by
  simp [cmdbatReg, BitVec.extractLsb'_or, extractLsb'_place_same, extractLsb'_place_disjoint]

theorem cmdbatReg_batraw : (cmdbatReg cfg f).getLsbD 3 = f.getLsbD 0 := by
  simp only [cmdbatReg, frameBatraw, BitVec.getLsbD_or, getLsbD_place]
  simp

theorem cmdbatReg_cmd : (cmdbatReg cfg f).extractLsb' 4 2 = cmdBits (cmdOf cfg (frameCmdraw f)) := by
  simp [cmdbatReg, BitVec.extractLsb'_or, extractLsb'_place_same, extractLsb'_place_disjoint]

theorem cmdbatReg_bat : (cmdbatReg cfg f).extractLsb' 6 2 = batBits (batOf (frameBatraw f)) := by
  simp [cmdbatReg, BitVec.extractLsb'_or, extractLsb'_place_same, extractLsb'_place_disjoint]

theorem cmdbatReg_unused : (cmdbatReg cfg f).extractLsb' 8 24 = 0 := by
  simp [cmdbatReg, BitVec.extractLsb'_or, extractLsb'_place_disjoint]

/-- The frame is 0 at reset: BAT is LOW, and CMD is CLOSE exactly when CLOSE_CODE is 000. -/
theorem cmdbatReg_zero : cmdbatReg cfg 0 = if cfg.closeCode.bits = 0b000 then 0xA0 else 0x80 := by
  by_cases h : cfg.closeCode.bits = 0b000
  · have hcmd : cmdOf cfg (frameCmdraw 0) = .cmdClose := by simp [cmdOf, frameCmdraw, Config.openCode, h]
    rw [cmdbatReg, hcmd, if_pos h]
    rfl
  · have hne : (0 : BitVec 3) ≠ cfg.closeCode.bits := Ne.symm h
    have hcmd : cmdOf cfg (frameCmdraw 0) = .unknown := by simpa [cmdOf, frameCmdraw, Config.openCode] using hne
    rw [cmdbatReg, hcmd, if_neg h]
    rfl

end

theorem closeCode_bits_ne (c : Config.CloseCode) : c.bits ≠ 0b001 ∧ c.bits ≠ 0b111 := by
  cases c <;> decide

/-- The codes of the closed command lookup (R177). -/
theorem cmdBits_cmdOf (cfg : Config.Params) (code : BitVec 3) :
    cmdBits (cmdOf cfg code) = if code = 0b001#3 then 1 else if code = cfg.closeCode.bits then 2 else 0 := by
  rw [cmdOf, apply_ite cmdBits, apply_ite cmdBits]
  rfl

/-- The codes of the closed battery lookup (R178). -/
theorem batBits_batOf (f : Frame) : batBits (batOf (frameBatraw f)) = if f.getLsbD 0 then 1 else 2 := by
  have hraw : frameBatraw f = BitVec.ofBool (f.getLsbD 0) := by
    ext j hj
    simp [frameBatraw, (by omega : j = 0)]
  rw [hraw]
  cases f.getLsbD 0 <;> rfl

/-- Settles O45. -/
theorem cmdbatRegister : Obligations.CmdbatRegister := fun s =>
  ⟨cmdbatReg_cmdraw _ s.frm, cmdbatReg_batraw _ s.frm,
    (cmdbatReg_cmd _ s.frm).trans (cmdBits_cmdOf _ _), (cmdbatReg_bat _ s.frm).trans (batBits_batOf s.frm),
    cmdbatReg_unused _ s.frm, cmdbatReg_zero _, closeCode_bits_ne _⟩

/-! ### The counters, the frame and the configuration (R46, R47, R49, R51) -/

theorem one_le_depth (cfg : Config.Params) : 1 ≤ cfg.depth := Nat.succ_pos _

theorem capsReg_eq (cfg : Config.Params) :
    capsReg cfg = BitVec.ofNat 32 (cfg.closeCode.bits.toNat * 65536 + cfg.depth) := by
  have hdepth : cfg.depth < 2 ^ 16 := Nat.lt_of_le_of_lt (depth_le_65535 cfg) (by decide)
  rw [capsReg, place_or_place_zero _ _ (by decide), BitVec.toNat_ofNat, Nat.mod_eq_of_lt hdepth]
  rfl

theorem readback_frm (cfg : Config.Params) (s : State) :
    (readback cfg 0x5 s ++ readback cfg 0x6 s : Frame) = s.frm :=
  (BitVec.extractLsb'_append_extractLsb'_eq_extractLsb' rfl).trans BitVec.extractLsb'_eq_self

theorem readback_unused (cfg : Config.Params) (s : State) {reg : BitVec 4} (h : 12 ≤ reg.toNat) :
    readback cfg reg s = 0 := by
  obtain rfl | rfl | rfl | rfl : reg = 0xC ∨ reg = 0xD ∨ reg = 0xE ∨ reg = 0xF := by bv_omega
  all_goals rfl

theorem readback_reset (cfg : Config.Params) {reg : BitVec 4} (h : (1 ≤ reg.toNat ∧ reg.toNat ≤ 6) ∨ reg = 0x8) :
    readback cfg reg State.reset = 0 := by
  obtain rfl | rfl | rfl | rfl | rfl | rfl | rfl :
      reg = 0x1 ∨ reg = 0x2 ∨ reg = 0x3 ∨ reg = 0x4 ∨ reg = 0x5 ∨ reg = 0x6 ∨ reg = 0x8 := by bv_omega
  all_goals rfl

/-- Settles O48. -/
theorem counterFrameAndConfigurationRegisters : Obligations.CounterFrameAndConfigurationRegisters := fun s =>
  ⟨place_zero s.spb, place_zero s.nstr, place_zero s.nsym, place_zero s.sel, readback_frm _ s,
    place_zero (frameDevid s.frm), capsReg_eq _, place_zero _, fun _ => readback_unused _ s,
    fun _ => readback_reset _, one_le_depth _, depth_le_65535 _⟩

end Sys2Proof.Machine
end

section
/-! SUPPORT. PROOFS of the memory family: one step of the port, reads, the readout of an entry, and the character places of a bit
string (20_memory.md R61, R65, R67, R69). -/

namespace Sys2Proof.Machine

/-! ### One action of the host (R65) -/

theorem step_of_port_cons {s : State} {a : HostAction} {rest : List HostAction} (h : s.port = a :: rest) :
    step s = performAction a (s.withPort rest) := by
  rw [step, stepPort, h]

theorem performWord_of_decode_ok {w : Word} {i : Instr} (h : decode w = .ok i) (s : State) :
    performWord w s = exec i s := by
  rw [performWord, h]

theorem step_of_write {s : State} {w : Word} {rest : List HostAction} {i : Instr} (hport : s.port = .write w :: rest)
    (hdec : decode w = .ok i) : step s = exec i (s.withPort rest) :=
  (step_of_port_cons hport).trans (performWord_of_decode_ok hdec _)

/-- Settles O7. -/
theorem stepRunsTheDecodedCommand : Obligations.StepRunsTheDecodedCommand :=
  fun _ _ _ _ => step_of_write

/-! ### Reads (R61) -/

/-- No register reads a port field. -/
@[simp] theorem readback_withPort (cfg : Config.Params) (reg : BitVec 4) (s : State) (p : List HostAction) :
    readback cfg reg (s.withPort p) = readback cfg reg s := rfl

@[simp] theorem readback_reply (cfg : Config.Params) (reg : BitVec 4) (s : State) (w : Word) :
    readback cfg reg (s.reply w) = readback cfg reg s := rfl

theorem step_of_read {s : State} {reg : BitVec 4} {rest : List HostAction} (h : s.port = .read reg :: rest) :
    step s = .next ((s.withPort rest).reply (readback Config.params reg s)) := by
  rw [step_of_port_cons h, performAction, readback_withPort]

/-- Settles O9. -/
theorem readHasNoSideEffect : Obligations.ReadHasNoSideEffect := by
  intro s reg rest hport
  have hstep := step_of_read hport
  refine ⟨hstep, fun t ht => ?_⟩
  obtain rfl := Host.Outcome.next.inj (hstep.symm.trans ht)
  rw [readback_reply, readback_withPort]

/-! ### The word of SELECT k is decoded as SELECT k

Every row's mask fixes the opcode bits, so a row of another opcode does not select the word (30_encoding.md R81, R87). -/

theorem fieldOp_eq_of_rowSelects {mask pattern w : Word} (hmask : fieldOp mask = 0xF#4)
    (h : rowSelects mask pattern w = true) : fieldOp w = fieldOp pattern := by
  have hw : w &&& mask = pattern := beq_iff_eq.mp h
  have hall : fieldOp w &&& 0xF#4 = fieldOp w := BitVec.and_allOnes
  calc fieldOp w = fieldOp w &&& fieldOp mask := by rw [hmask, hall]
    _ = fieldOp (w &&& mask) := BitVec.extractLsb'_and.symm
    _ = fieldOp pattern := by rw [hw]

theorem fieldOp_encode_select (k : Half) : fieldOp (encode (.select k)) = 0x5#4 := by
  simp [fieldOp, encode, BitVec.extractLsb'_or, extractLsb'_place_same, extractLsb'_place_disjoint]

theorem fieldImm16_encode_select (k : Half) : fieldImm16 (encode (.select k)) = k := by
  simp [fieldImm16, encode, BitVec.extractLsb'_or, extractLsb'_place_same, extractLsb'_place_disjoint]

theorem decode_encode_select (k : Half) : decode (encode (.select k)) = .ok (.select k) := by
  have hother (mask pattern : Word) (hmask : fieldOp mask = 0xF#4) (hop : 0x5#4 ≠ fieldOp pattern) :
      ¬ rowSelects mask pattern (encode (.select k)) = true := fun h =>
    hop ((fieldOp_encode_select k).symm.trans (fieldOp_eq_of_rowSelects hmask h))
  have hrow : rowSelects maskK 0x50000000 (encode (.select k)) = true :=
    beq_iff_eq.mpr (Laws.EncodesToRow.select k)
  rw [decode, if_neg (hother maskN 0x00000000 rfl (by decide)), if_neg (hother maskSL 0x10000000 rfl (by decide)),
    if_neg (hother maskN 0x20000000 rfl (by decide)), if_neg (hother maskK 0x30000000 rfl (by decide)),
    if_neg (hother maskN 0x40000000 rfl (by decide)), if_pos hrow, fieldImm16_encode_select]

/-! ### The readout of an entry (R69) -/

theorem run_succ_of_step {M : Host.Core} {s t : M.State} (h : M.step s = .next t) (n : Nat) :
    M.run (n + 1) s = M.run n t := by
  rw [Host.Core.run, h]

/-- Reads one after the other: each answers its register of the state the first read found. -/
theorem run_reads (regs : List (BitVec 4)) {s : State} {rest : List HostAction}
    (h : s.port = regs.map .read ++ rest) :
    Host.Core.run core regs.length s =
      .next { s with port := rest, replies := (regs.map (readback Config.params · s)).reverse ++ s.replies } := by
  induction regs generalizing s with
  | nil =>
    obtain rfl : s.port = rest := h
    rfl
  | cons reg regs ih =>
    have hstep : core.step s = .next _ := step_of_read h
    rw [List.length_cons, run_succ_of_step hstep, ih rfl, List.map_cons, List.reverse_cons, List.append_assoc]
    rfl

/-- The registers read back for one entry: FRM_HI, FRM_LO, SYNC, DEVID and CMDBAT. -/
def entryRegisters : List (BitVec 4) := [0x5, 0x6, 0x7, 0x8, 0x9]

theorem readEntry_eq (k : Half) : readEntry k = .write (encode (.select k)) :: entryRegisters.map .read := rfl

theorem step_of_select_valid {s : State} {k : Half} {rest : List HostAction}
    (hport : s.port = .write (encode (.select k)) :: rest) (hk : k.toNat < s.nstr.toNat) :
    step s = .next ((s.withPort rest).selectEntry k) := by
  rw [step_of_write hport (decode_encode_select k), exec_eq_next]
  exact congrArg Host.Outcome.next (if_pos hk)

/-- Settles O51: SELECT k loads the entry, and the five reads answer its registers. -/
theorem readoutOfOneEntry : Obligations.ReadoutOfOneEntry := by
  intro s k rest hk hport
  have hselect : core.step s = .next ((s.withPort (entryRegisters.map .read ++ rest)).selectEntry k) :=
    step_of_select_valid (hport.trans (congrArg (· ++ rest) (readEntry_eq k))) hk
  exact (run_succ_of_step hselect 5).trans (run_reads entryRegisters rfl)

/-! ### The character places of a bit string (R67) -/

theorem getLsbD_shiftIn_zero (r : Frame) (b : Bool) : (shiftIn r b).getLsbD 0 = b := by
  simp [shiftIn]

theorem getLsbD_shiftIn_succ (r : Frame) (b : Bool) {j : Nat} (hj : j + 1 < 64) :
    (shiftIn r b).getLsbD (j + 1) = r.getLsbD j := by
  simp [shiftIn, hj, BitVec.getLsbD_eq_getElem (Nat.lt_of_succ_lt hj)]

theorem packBits_concat (bits : List Bool) (b : Bool) : packBits (bits ++ [b]) = shiftIn (packBits bits) b :=
  List.foldl_concat ..

/-- Bit j of the packed value is the j-th character from the end; of a longer string the first characters are lost. -/
theorem getLsbD_packBits (bits : List Bool) {j : Nat} (hj : j < 64) :
    (packBits bits).getLsbD j = bits.reverse.getD j false := by
  induction bits using List.reverseRecOn generalizing j with
  | nil => simp [packBits]
  | append_singleton bits b ih =>
    rw [packBits_concat, List.reverse_concat]
    cases j with
    | zero => exact getLsbD_shiftIn_zero _ b
    | succ j => rw [getLsbD_shiftIn_succ _ b hj, List.getD_cons_succ, ih (Nat.lt_of_succ_lt hj)]

/-- Settles O6. -/
theorem bitStringCharacterPlaces : Obligations.BitStringCharacterPlaces := by
  intro bits hlen k hk
  have hrev : bits.reverse.getD (63 - k) false = bits.getD k false := by
    rw [List.getD_reverse _ (by omega)]
    congr 1
    omega
  rw [getLsbD_packBits bits (by omega), hrev]

end Sys2Proof.Machine
end

section
/-! SUPPORT. PROOFS of the encoding family: the decoder as the opcode map, the two round trips, the assembler's words and the four
loads of LDFRM64 (30_encoding.md R81 to R93). -/

namespace Sys2Proof.Machine

open Sys2Proof.Laws.EncodesToRow (row)

/-! ### The decoder is the opcode map (R87)

The opcode alone names a row, so decoding is: the command of the opcode with the word's fields, provided that its row selects the
word. -/

/-- The command of opcode `op` with its operands read from the fields of `w`, whatever the reserved bits; `decode_eq_ok_iff` ties it
to the decoder. -/
def commandOf (op : Nat) (w : Word) : Option Instr :=
  match op with
  | 0x0 => some .nop
  | 0x1 => some (.sample (fieldI w) (fieldQ w) (fieldSoi w) (fieldEoi w))
  | 0x2 => some .endInterval
  | 0x3 => some (.setspb (fieldImm16 w))
  | 0x4 => some .capture
  | 0x5 => some (.select (fieldImm16 w))
  | 0x6 => some (.ldfrm (fieldC w) (fieldImm16 w))
  | 0x7 => some .clrstat
  | _ => none

/-- OP of a command; `opcode_eq` ties it to the command's row. -/
def opcode : Instr → Nat
  | .nop => 0x0
  | .sample _ _ _ _ => 0x1
  | .endInterval => 0x2
  | .setspb _ => 0x3
  | .capture => 0x4
  | .select _ => 0x5
  | .ldfrm _ _ => 0x6
  | .clrstat => 0x7

theorem opcode_eq (i : Instr) : opcode i = (fieldOp (row i).2).toNat := by
  cases i <;> simp [opcode, row, fieldOp]

theorem opcode_of_commandOf {op : Nat} {w : Word} {i : Instr} (h : commandOf op w = some i) : opcode i = op := by
  unfold commandOf at h
  split at h <;> cases h <;> rfl

/-- The row of a command selects the word. -/
def RowSelects (i : Instr) (w : Word) : Prop := w &&& (row i).1 = (row i).2

theorem rowSelects_encode (i : Instr) : RowSelects i (encode i) := by
  cases i with
  | nop => exact Laws.EncodesToRow.nop
  | sample ib qb soi eoi => exact Laws.EncodesToRow.sample ib qb soi eoi
  | endInterval => exact Laws.EncodesToRow.endInterval
  | setspb w => exact Laws.EncodesToRow.setspb w
  | capture => exact Laws.EncodesToRow.capture
  | select k => exact Laws.EncodesToRow.select k
  | ldfrm c d => exact Laws.EncodesToRow.ldfrm c d
  | clrstat => exact Laws.EncodesToRow.clrstat

theorem fieldOp_of_rowSelects {i : Instr} {w : Word} (h : RowSelects i w) : (fieldOp w).toNat = opcode i := by
  have hmask : fieldOp (row i).1 = 0xF#4 := by cases i <;> simp [row, fieldOp]
  rw [opcode_eq, fieldOp_eq_of_rowSelects hmask (beq_iff_eq.mpr h)]

/-- What the decoder answers: a command whose row selects the word, with the fields of the word. -/
theorem rowSelects_and_commandOf_of_decode_ok {w : Word} {i : Instr} (h : decode w = .ok i) :
    RowSelects i w ∧ commandOf (opcode i) w = some i := by
  unfold decode at h
  split_ifs at h with hsel hsel hsel hsel hsel hsel hsel hsel <;> cases h <;> exact ⟨beq_iff_eq.mp hsel, rfl⟩

/-- A rejected word is selected by no row. -/
theorem not_rowSelects_of_decode_error {w : Word} {why : Illegal} (h : decode w = .error why) (i : Instr) :
    ¬ RowSelects i w := by
  intro hsel
  have hrow : rowSelects (row i).1 (row i).2 w = true := beq_iff_eq.mpr hsel
  unfold decode at h
  split_ifs at h
  all_goals cases i <;> contradiction

theorem decode_eq_ok_iff {w : Word} {i : Instr} :
    decode w = .ok i ↔ RowSelects i w ∧ commandOf (opcode i) w = some i := by
  refine ⟨rowSelects_and_commandOf_of_decode_ok, fun ⟨hsel, hcmd⟩ => ?_⟩
  cases hdec : decode w with
  | error why => exact absurd hsel (not_rowSelects_of_decode_error hdec i)
  | ok j =>
    obtain ⟨hselj, hcmdj⟩ := rowSelects_and_commandOf_of_decode_ok hdec
    rw [← fieldOp_of_rowSelects hsel, fieldOp_of_rowSelects hselj, hcmdj] at hcmd
    rw [Option.some.inj hcmd]

/-! ### Decoding the word of a command -/

section
variable (ib qb : Byte) (soi eoi : Bool) (c : BitVec 2) (d : Half)

theorem fieldI_encode_sample : fieldI (encode (.sample ib qb soi eoi)) = ib := by
  simp [fieldI, encode, BitVec.extractLsb'_or, extractLsb'_place_same, extractLsb'_place_disjoint]

theorem fieldQ_encode_sample : fieldQ (encode (.sample ib qb soi eoi)) = qb := by
  simp [fieldQ, encode, BitVec.extractLsb'_or, extractLsb'_place_same, extractLsb'_place_disjoint]

theorem fieldSoi_encode_sample : fieldSoi (encode (.sample ib qb soi eoi)) = soi := by
  simp [fieldSoi, encode, getLsbD_place, -BitVec.getLsbD_eq_getElem]

theorem fieldEoi_encode_sample : fieldEoi (encode (.sample ib qb soi eoi)) = eoi := by
  simp [fieldEoi, encode, getLsbD_place, -BitVec.getLsbD_eq_getElem]

theorem fieldImm16_encode_setspb : fieldImm16 (encode (.setspb d)) = d := by
  simp [fieldImm16, encode, BitVec.extractLsb'_or, extractLsb'_place_same, extractLsb'_place_disjoint]

theorem fieldC_encode_ldfrm : fieldC (encode (.ldfrm c d)) = c := by
  simp [fieldC, encode, BitVec.extractLsb'_or, extractLsb'_place_same, extractLsb'_place_disjoint]

theorem fieldImm16_encode_ldfrm : fieldImm16 (encode (.ldfrm c d)) = d := by
  simp [fieldImm16, encode, BitVec.extractLsb'_or, extractLsb'_place_same, extractLsb'_place_disjoint]

end

/-- The fields of a command's word are the command's operands. -/
theorem commandOf_encode (i : Instr) : commandOf (opcode i) (encode i) = some i := by
  cases i with
  | nop | endInterval | capture | clrstat => rfl
  | sample ib qb soi eoi =>
    rw [opcode, commandOf, fieldI_encode_sample, fieldQ_encode_sample, fieldSoi_encode_sample, fieldEoi_encode_sample]
  | setspb w => rw [opcode, commandOf, fieldImm16_encode_setspb]
  | select k => rw [opcode, commandOf, fieldImm16_encode_select]
  | ldfrm c d => rw [opcode, commandOf, fieldC_encode_ldfrm, fieldImm16_encode_ldfrm]

theorem decode_encode (i : Instr) : decode (encode i) = .ok i :=
  decode_eq_ok_iff.mpr ⟨rowSelects_encode i, commandOf_encode i⟩

/-- Settles O1: the command's row selects the word, and the word's fields are the operands. -/
theorem decodeEncodeIsIdentity : Obligations.DecodeEncodeIsIdentity :=
  fun i _ => decode_encode i

/-! ### Encoding the command of a word -/

/-- A field put back at its bits is the word under the field's mask. -/
theorem place_extractLsb' (lo n : Nat) (w : Word) :
    place lo (w.extractLsb' lo n) = w &&& place lo (BitVec.allOnes n) := by
  refine BitVec.eq_of_getLsbD_eq fun j hj => ?_
  rw [BitVec.getLsbD_and, getLsbD_place, getLsbD_place, BitVec.getLsbD_extractLsb', BitVec.getLsbD_allOnes]
  by_cases hlo : lo ≤ j
  · rw [Nat.add_sub_cancel' hlo, ← Bool.and_assoc, Bool.and_comm]
  · simp [hlo]

theorem ofBool_getLsbD_eq_extractLsb' (w : Word) (j : Nat) : BitVec.ofBool (w.getLsbD j) = w.extractLsb' j 1 := by
  refine BitVec.eq_of_getLsbD_eq fun k hk => ?_
  obtain rfl : k = 0 := by omega
  simp

theorem place_ofBool_getLsbD (lo : Nat) (w : Word) :
    place lo (BitVec.ofBool (w.getLsbD lo)) = w &&& place lo (BitVec.allOnes 1) := by
  rw [ofBool_getLsbD_eq_extractLsb', place_extractLsb']

/-- A command with the operands of `w`: its word has the match bits of its row and the operand bits of `w`. -/
theorem encode_eq_match_or_operands {i : Instr} {w : Word} (hcmd : commandOf (opcode i) w = some i) :
    encode i = (row i).2 ||| w &&& ~~~(row i).1 := by
  cases i with
  | nop | endInterval | capture | clrstat => simp [encode, row, place]
  | sample ib qb soi eoi =>
    obtain ⟨rfl, rfl, rfl, rfl⟩ := Instr.sample.inj (Option.some.inj hcmd)
    simp only [encode, row, fieldI, fieldQ, fieldSoi, fieldEoi, place_extractLsb', place_ofBool_getLsbD, BitVec.or_assoc,
      ← BitVec.and_or_distrib_left]
    rfl
  | setspb k | select k =>
    obtain rfl : fieldImm16 w = k := by simpa [commandOf, opcode] using hcmd
    rw [encode, row, fieldImm16, place_extractLsb']
    rfl
  | ldfrm c d =>
    obtain ⟨rfl, rfl⟩ := Instr.ldfrm.inj (Option.some.inj hcmd)
    simp only [encode, row, fieldC, fieldImm16, place_extractLsb', BitVec.or_assoc, ← BitVec.and_or_distrib_left]
    rfl

/-- Settles O2: the match bits are the word's bits under the row's mask. -/
theorem encodeDecodeIsIdentity : Obligations.EncodeDecodeIsIdentity := by
  intro w i hdec
  obtain ⟨hsel, hcmd⟩ := decode_eq_ok_iff.mp hdec
  calc encode i = w &&& (row i).1 ||| w &&& ~~~(row i).1 := by rw [encode_eq_match_or_operands hcmd, hsel]
    _ = w := by rw [← BitVec.and_or_distrib_left, BitVec.or_not_self, BitVec.and_allOnes]

/-! ### ILLEGAL words (R88) -/

/-- The number of operand bits at the bottom of a command's word: 0 for format N, 18 for S and L, 16 for K (R81); the bits
from there to 27 are reserved. -/
def operandBits : Instr → Nat
  | .nop | .endInterval | .capture | .clrstat => 0
  | .sample _ _ _ _ | .ldfrm _ _ => 18
  | .setspb _ | .select _ => 16

theorem operandBits_le (i : Instr) : operandBits i ≤ 28 := by
  cases i <;> simp [operandBits]

theorem row_eq (i : Instr) :
    row i = (BitVec.allOnes 32 <<< operandBits i, place 28 (BitVec.ofNat 4 (opcode i))) := by
  cases i <;> (simp only [row, operandBits, opcode]; decide)

theorem toNat_fieldOp (w : Word) : (fieldOp w).toNat = w.toNat / 2 ^ 28 := by
  have hw : w.toNat / 2 ^ 28 < 2 ^ 4 := by omega
  rw [fieldOp, BitVec.extractLsb'_toNat, Nat.shiftRight_eq_div_pow, Nat.mod_eq_of_lt hw]

/-- Above bit `lo` a word holds nothing but its opcode exactly when the bits from `lo` to 27 are 0. -/
theorem and_mask_eq_opcode_iff {lo : Nat} (hlo : lo ≤ 28) (w : Word) :
    w &&& BitVec.allOnes 32 <<< lo = place 28 (fieldOp w) ↔ w.extractLsb' lo (28 - lo) = 0 := by
  have hmasked (j : Nat) (hj : j < 32) :
      (w &&& BitVec.allOnes 32 <<< lo).getLsbD j = (w.getLsbD j && decide (lo ≤ j)) := by
    rw [BitVec.getLsbD_and, BitVec.getLsbD_shiftLeft, BitVec.getLsbD_allOnes]
    by_cases h : lo ≤ j
    · simp [h, hj, (by omega : j - lo < 32)]
    · simp [h, hj, Nat.lt_of_not_le h]
  have hopcode (j : Nat) (hj : j < 32) : (place 28 (fieldOp w)).getLsbD j = (w.getLsbD j && decide (28 ≤ j)) := by
    rw [getLsbD_place, fieldOp, BitVec.getLsbD_extractLsb']
    by_cases h : 28 ≤ j
    · rw [Nat.add_sub_cancel' h]
      simp [h, hj, (by omega : j - 28 < 4)]
    · simp [h]
  constructor
  · intro h
    refine BitVec.eq_of_getLsbD_eq fun k hk => ?_
    have hbit := congrArg (BitVec.getLsbD · (lo + k)) h
    simp only [hmasked (lo + k) (by omega), hopcode (lo + k) (by omega), decide_eq_true (Nat.le_add_right lo k),
      decide_eq_false (by omega : ¬ 28 ≤ lo + k), Bool.and_true, Bool.and_false] at hbit
    rw [BitVec.getLsbD_extractLsb', hbit, Bool.and_false, BitVec.ofNat_eq_ofNat, BitVec.getLsbD_zero]
  · intro h
    refine BitVec.eq_of_getLsbD_eq fun j hj => ?_
    rw [hmasked j hj, hopcode j hj]
    by_cases hres : lo ≤ j ∧ j < 28
    · have hbit := congrArg (BitVec.getLsbD · (j - lo)) h
      simp only [BitVec.getLsbD_extractLsb', Nat.add_sub_cancel' hres.1, decide_eq_true (by omega : j - lo < 28 - lo),
        Bool.true_and, BitVec.ofNat_eq_ofNat, BitVec.getLsbD_zero] at hbit
      rw [hbit, Bool.false_and, Bool.false_and]
    · have hiff : lo ≤ j ↔ 28 ≤ j := by omega
      rw [decide_eq_decide.mpr hiff]

/-- The row of the opcode's command selects the word exactly when the reserved bits are 0. -/
theorem rowSelects_iff {i : Instr} {w : Word} (hop : opcode i = (fieldOp w).toNat) :
    RowSelects i w ↔ w.extractLsb' (operandBits i) (28 - operandBits i) = 0 := by
  rw [← and_mask_eq_opcode_iff (operandBits_le i), RowSelects, row_eq, hop, BitVec.ofNat_toNat, BitVec.setWidth_eq]

/-- A word is ILLEGAL exactly when its opcode is reserved or the reserved bits of the opcode's format are not all 0. -/
theorem exists_decode_error_iff (w : Word) :
    (∃ why, decode w = .error why) ↔ ∀ i, commandOf (fieldOp w).toNat w = some i →
      w.extractLsb' (operandBits i) (28 - operandBits i) ≠ 0 := by
  constructor
  · rintro ⟨why, hwhy⟩ i hcmd hzero
    exact not_rowSelects_of_decode_error hwhy i ((rowSelects_iff (opcode_of_commandOf hcmd)).mpr hzero)
  · intro h
    cases hdec : decode w with
    | error why => exact ⟨why, rfl⟩
    | ok i =>
      obtain ⟨hsel, hcmd⟩ := decode_eq_ok_iff.mp hdec
      have hop := fieldOp_of_rowSelects hsel
      rw [hop] at h
      exact absurd ((rowSelects_iff hop.symm).mp hsel) (h i hcmd)

/-- Settles O3: a word is ILLEGAL when its opcode has no command, or the command's row does not select it. -/
theorem decodeIsTheOpcodeMap : Obligations.DecodeIsTheOpcodeMap := by
  intro w
  have hrow {i : Instr} (hsel : RowSelects i w) (hcmd : commandOf (opcode i) w = some i) : decode w = .ok i :=
    decode_eq_ok_iff.mpr ⟨hsel, hcmd⟩
  refine ⟨(hrow · rfl), (hrow · rfl), (hrow · rfl), (hrow · rfl), (hrow · rfl), (hrow · rfl), (hrow · rfl),
    (hrow · rfl), ?illegal⟩
  rw [exists_decode_error_iff, toNat_fieldOp]
  generalize w.toNat / 2 ^ 28 = op
  match op with
  | 0 | 1 | 2 | 3 | 4 | 5 | 6 | 7 => simp [commandOf, operandBits]
  | op + 8 => simp [commandOf]

/-- Settles O4: each legal word is the word of its command, and the two rejected words are evaluated. -/
theorem writtenOutWordsDecode : Obligations.WrittenOutWordsDecode :=
  ⟨decode_encode .nop, decode_encode (.sample 255 1 true true), decode_encode (.sample 1 128 false true),
    decode_encode .endInterval, decode_encode (.setspb 8), decode_encode .capture, decode_encode (.select 0x8001),
    decode_encode (.ldfrm 2 0xBEEF), decode_encode .clrstat, by decide, by decide⟩

/-! ### The assembler (R92, R93) -/

theorem assemble_of_wf {l : AsmLine} (h : l.wf = true) : assemble l = some (lineWords l) := if_pos h

theorem assemble_of_not_wf {l : AsmLine} (h : ¬ l.wf = true) : assemble l = none := if_neg h

/-- A line assembles to its words exactly when its operands are in range. -/
theorem assemble_eq {l : AsmLine} {p : Prop} [Decidable p] {words : List Word} (hwf : l.wf = true ↔ p)
    (hwords : p → lineWords l = words) : assemble l = if p then some words else none :=
  if_ctx_congr hwf (fun hp => congrArg some (hwords hp)) fun _ => rfl

/-- The word of a number that fits its field: the number at the field's place. -/
theorem place_ofNat {n x : Nat} (lo : Nat) (h : x < 2 ^ n) : place lo (BitVec.ofNat n x) = BitVec.ofNat 32 x <<< lo := by
  rw [place, ← BitVec.ofNat_toNat, BitVec.toNat_ofNat, Nat.mod_eq_of_lt h]

theorem place_ofBool (lo : Nat) (b : Bool) : place lo (BitVec.ofBool b) = if b then 1#32 <<< lo else 0 := by
  cases b <;> simp [place]

theorem encode_sample_ofNat {i q : Nat} (hi : i < 256) (hq : q < 256) (soi eoi : Bool) :
    encode (.sample (BitVec.ofNat 8 i) (BitVec.ofNat 8 q) soi eoi) =
      0x10000000#32 ||| (BitVec.ofNat 32 q <<< 8) ||| BitVec.ofNat 32 i |||
        (if soi then 0x00010000#32 else 0) ||| (if eoi then 0x00020000#32 else 0) := by
  have hop : place 28 0x1#4 = 0x10000000#32 := rfl
  have hsoi : 1#32 <<< 16 = 0x00010000#32 := rfl
  have heoi : 1#32 <<< 17 = 0x00020000#32 := rfl
  rw [encode, place_ofNat 8 hq, place_ofNat 0 hi, BitVec.shiftLeft_zero, place_ofBool, place_ofBool, hop, hsoi, heoi]
  ac_rfl

theorem encode_setspb_ofNat {w : Nat} (hw : w < 65536) :
    encode (.setspb (BitVec.ofNat 16 w)) = 0x30000000#32 ||| BitVec.ofNat 32 w := by
  rw [encode, place_ofNat 0 hw, BitVec.shiftLeft_zero]
  rfl

theorem encode_select_ofNat {k : Nat} (hk : k < 65536) :
    encode (.select (BitVec.ofNat 16 k)) = 0x50000000#32 ||| BitVec.ofNat 32 k := by
  rw [encode, place_ofNat 0 hk, BitVec.shiftLeft_zero]
  rfl

theorem encode_ldfrm_ofNat {c d : Nat} (hc : c < 4) (hd : d < 65536) :
    encode (.ldfrm (BitVec.ofNat 2 c) (BitVec.ofNat 16 d)) =
      0x60000000#32 ||| (BitVec.ofNat 32 c <<< 16) ||| BitVec.ofNat 32 d := by
  rw [encode, place_ofNat 16 hc, place_ofNat 0 hd, BitVec.shiftLeft_zero]
  rfl

theorem extractLsb'_ofNat {v : Nat} (h : v < 2 ^ 64) (start : Nat) :
    (BitVec.ofNat 64 v).extractLsb' start 16 = BitVec.ofNat 16 (v / 2 ^ start % 2 ^ 16) := by
  refine BitVec.eq_of_toNat_eq ?_
  rw [BitVec.extractLsb'_toNat, BitVec.toNat_ofNat, Nat.mod_eq_of_lt h, Nat.shiftRight_eq_div_pow, BitVec.toNat_ofNat,
    Nat.mod_mod]

/-- The word of a load of the 16 bits of `v` from bit `start`. -/
theorem encode_ldfrm_chunk {v : Nat} (hv : v < 2 ^ 64) (c : BitVec 2) (start : Nat) :
    encode (.ldfrm c ((BitVec.ofNat 64 v).extractLsb' start 16)) =
      0x60000000#32 ||| (BitVec.ofNat 32 c.toNat <<< 16) ||| BitVec.ofNat 32 (v / 2 ^ start % 2 ^ 16) := by
  have hchunk : v / 2 ^ start % 2 ^ 16 < 65536 := Nat.mod_lt _ (by decide)
  rw [extractLsb'_ofNat hv, ← encode_ldfrm_ofNat c.isLt hchunk, BitVec.ofNat_toNat, BitVec.setWidth_eq]

theorem map_encode_ldfrm64 {v : Nat} (hv : v < 2 ^ 64) :
    (ldfrm64 (BitVec.ofNat 64 v)).map encode =
      [0x60030000#32 ||| BitVec.ofNat 32 (v / 2 ^ 48), 0x60020000#32 ||| BitVec.ofNat 32 (v / 2 ^ 32 % 2 ^ 16),
        0x60010000#32 ||| BitVec.ofNat 32 (v / 2 ^ 16 % 2 ^ 16), 0x60000000#32 ||| BitVec.ofNat 32 (v % 2 ^ 16)] := by
  have htop : v / 2 ^ 48 % 2 ^ 16 = v / 2 ^ 48 := by omega
  simp only [ldfrm64, List.map_cons, List.map_nil, encode_ldfrm_chunk hv]
  rw [htop, Nat.pow_zero, Nat.div_one]
  rfl

theorem rawByte_eq {a : Int} (h : -128 ≤ a) : rawByte a = BitVec.ofNat 8 (a + 128).toNat := by
  rw [rawByte, ← BitVec.ofInt_natCast, Int.toNat_of_nonneg (by omega)]

theorem wf_ldfrmstr_iff (t : List Char) :
    (AsmLine.ldfrmstr t).wf = true ↔ t.length = 64 ∧ ∀ c ∈ t, c = '0' ∨ c = '1' := by
  simp [AsmLine.wf]

/-- The bits of a string of characters, as the assembler packs them, have character k at bit 63 - k. -/
theorem getLsbD_packBits_chars {t : List Char} (hlen : t.length = 64) {k : Nat} (hk : k < 64) :
    (packBits (t.map (· == '1'))).getLsbD (63 - k) = (t.getD k '0' == '1') := by
  rw [bitStringCharacterPlaces _ (by rw [List.length_map, hlen]) k hk]
  exact List.getD_map t '0' (· == '1')

section
variable (i q w k c d x v : Nat) (a b : Int) (soi eoi : Bool) {t : List Char}

theorem assemble_sample : assemble (.sample i q soi eoi) =
    if i < 256 ∧ q < 256 then
      some [0x10000000#32 ||| (BitVec.ofNat 32 q <<< 8) ||| BitVec.ofNat 32 i |||
        (if soi then 0x00010000#32 else 0) ||| (if eoi then 0x00020000#32 else 0)]
    else none :=
  assemble_eq (by simp [AsmLine.wf]) fun ⟨hi, hq⟩ => congrArg (fun w => [w]) (encode_sample_ofNat hi hq soi eoi)

theorem assemble_setspb : assemble (.setspb w) =
    if w < 65536 then some [0x30000000#32 ||| BitVec.ofNat 32 w] else none :=
  assemble_eq (by simp [AsmLine.wf]) fun hw => congrArg (fun w => [w]) (encode_setspb_ofNat hw)

theorem assemble_select : assemble (.select k) =
    if k < 65536 then some [0x50000000#32 ||| BitVec.ofNat 32 k] else none :=
  assemble_eq (by simp [AsmLine.wf]) fun hk => congrArg (fun w => [w]) (encode_select_ofNat hk)

theorem assemble_ldfrm : assemble (.ldfrm c d) =
    if c < 4 ∧ d < 65536 then some [0x60000000#32 ||| (BitVec.ofNat 32 c <<< 16) ||| BitVec.ofNat 32 d] else none :=
  assemble_eq (by simp [AsmLine.wf]) fun ⟨hc, hd⟩ => congrArg (fun w => [w]) (encode_ldfrm_ofNat hc hd)

theorem assemble_word : assemble (.word x) = if x < 2 ^ 32 then some [BitVec.ofNat 32 x] else none :=
  assemble_eq (by simp [AsmLine.wf]) fun _ => rfl

theorem assemble_ldfrm64 : assemble (.ldfrm64 v) =
    if v < 2 ^ 64 then
      some [0x60030000#32 ||| BitVec.ofNat 32 (v / 2 ^ 48), 0x60020000#32 ||| BitVec.ofNat 32 (v / 2 ^ 32 % 2 ^ 16),
        0x60010000#32 ||| BitVec.ofNat 32 (v / 2 ^ 16 % 2 ^ 16), 0x60000000#32 ||| BitVec.ofNat 32 (v % 2 ^ 16)]
    else none :=
  assemble_eq (by simp [AsmLine.wf]) map_encode_ldfrm64

theorem assemble_samplen : assemble (.samplen a b soi eoi) =
    if -128 ≤ a ∧ a ≤ 127 ∧ -128 ≤ b ∧ b ≤ 127 then assemble (.sample (a + 128).toNat (b + 128).toNat soi eoi)
    else none := by
  have hwf : (AsmLine.samplen a b soi eoi).wf = true ↔ -128 ≤ a ∧ a ≤ 127 ∧ -128 ≤ b ∧ b ≤ 127 := by
    simp [AsmLine.wf, and_assoc]
  split_ifs with h
  · have hline := hwf.mpr h
    obtain ⟨ha, _, hb, _⟩ := h
    have hraw : (AsmLine.sample (a + 128).toNat (b + 128).toNat soi eoi).wf = true := by
      simp only [AsmLine.wf, Bool.and_eq_true, decide_eq_true_iff]
      omega
    rw [assemble_of_wf hline, assemble_of_wf hraw, lineWords, lineWords, rawByte_eq ha, rawByte_eq hb]
  · exact assemble_of_not_wf (mt hwf.mp h)

theorem assemble_ldfrmstr (hlen : t.length = 64) (hchars : ∀ c ∈ t, c = '0' ∨ c = '1') :
    assemble (.ldfrmstr t) = assemble (.ldfrm64 (packBits (t.map (· == '1'))).toNat) := by
  have hv : (AsmLine.ldfrm64 (packBits (t.map (· == '1'))).toNat).wf = true := decide_eq_true (BitVec.isLt _)
  rw [assemble_of_wf ((wf_ldfrmstr_iff t).mpr ⟨hlen, hchars⟩), assemble_of_wf hv, lineWords, lineWords,
    BitVec.ofNat_toNat, BitVec.setWidth_eq]

theorem assemble_ldfrmstr_bad (hbad : t.length ≠ 64 ∨ ∃ c ∈ t, c ≠ '0' ∧ c ≠ '1') : assemble (.ldfrmstr t) = none := by
  refine assemble_of_not_wf fun hwf => ?_
  obtain ⟨hlen, hchars⟩ := (wf_ldfrmstr_iff t).mp hwf
  obtain hne | ⟨c, hc, h0, h1⟩ := hbad
  · exact hne hlen
  · exact (hchars c hc).elim h0 h1

end

/-- Settles O5: the value a string of 64 characters loads is the packed string. -/
theorem assemblerWordsOfTheSyntaxTable : Obligations.AssemblerWordsOfTheSyntaxTable :=
  ⟨rfl, rfl, rfl, rfl, assemble_sample, assemble_setspb, assemble_select, assemble_ldfrm, assemble_word, assemble_samplen,
    assemble_ldfrm64,
    fun t hlen hchars => ⟨(packBits (t.map (· == '1'))).toNat, BitVec.isLt _, fun _ => getLsbD_packBits_chars hlen,
      assemble_ldfrmstr hlen hchars⟩,
    fun _ => assemble_ldfrmstr_bad⟩

/-! ### LDFRM64 (R93 a) -/

theorem execAll_cons (i : Instr) (is : List Instr) (s : State) : execAll (i :: is) s = execAll is (s.after i) := by
  rw [execAll, exec_eq_next]

/-- Bits 16c to 16c + 15 are replaced, the others stay (R84). -/
theorem getLsbD_putChunk (c : BitVec 2) (d : Half) (x : Frame) {j : Nat} (hj : j < 64) :
    (putChunk c d x).getLsbD j =
      if 16 * c.toNat ≤ j ∧ j ≤ 16 * c.toNat + 15 then d.getLsbD (j - 16 * c.toNat) else x.getLsbD j := by
  have hones (k : Nat) : (0xFFFF#64).getLsbD k = decide (k < 16) := by
    have hmask : 0xFFFF#64 = (BitVec.allOnes 16).setWidth 64 := by decide
    rw [hmask, BitVec.getLsbD_setWidth, BitVec.getLsbD_allOnes, ← Bool.decide_and, decide_eq_decide]
    omega
  simp only [putChunk, chunkMask, chunkBase, BitVec.getLsbD_or, BitVec.getLsbD_and, BitVec.getLsbD_not,
    BitVec.getLsbD_shiftLeft, BitVec.getLsbD_setWidth, hones, hj, decide_true, Bool.true_and]
  by_cases hlo : j < 16 * c.toNat
  · simp [hlo, Nat.not_le_of_lt hlo]
  · by_cases hhi : j ≤ 16 * c.toNat + 15
    · simp [hlo, hhi, Nat.le_of_not_lt hlo, (by omega : j - 16 * c.toNat < 16), (by omega : j - 16 * c.toNat < 64)]
    · simp [hlo, hhi, (by omega : 16 ≤ j - 16 * c.toNat)]

/-- The four chunks of `v` are all of `v`. -/
theorem putChunk_all (v x : Frame) :
    putChunk 0 (v.extractLsb' 0 16) (putChunk 1 (v.extractLsb' 16 16)
      (putChunk 2 (v.extractLsb' 32 16) (putChunk 3 (v.extractLsb' 48 16) x))) = v := by
  refine BitVec.eq_of_getLsbD_eq fun j hj => ?_
  have hin {lo : Nat} (h : lo ≤ j ∧ j ≤ lo + 15) : (v.extractLsb' lo 16).getLsbD (j - lo) = v.getLsbD j := by
    rw [BitVec.getLsbD_extractLsb', Nat.add_sub_cancel' h.1, decide_eq_true (by omega), Bool.true_and]
  simp only [getLsbD_putChunk _ _ _ hj, BitVec.ofNat_eq_ofNat, BitVec.toNat_ofNat, Nat.reducePow, Nat.reduceMod,
    Nat.reduceMul]
  split_ifs with h0 h1 h2 h3
  · exact hin h0
  · exact hin h1
  · exact hin h2
  · exact hin h3
  · omega

/-- Settles O18: the four chunks loaded are all of FRM. -/
theorem ldfrm64LoadsTheWholeFrame : Obligations.Ldfrm64LoadsTheWholeFrame := by
  intro s v
  rw [ldfrm64, execAll_cons, execAll_cons, execAll_cons, execAll_cons, execAll]
  exact congrArg (fun f => Host.Outcome.next { s with frm := f }) (putChunk_all v s.frm)

end Sys2Proof.Machine
end

section
/-! SUPPORT. PROOFS of the phase unwrapper family: the real phase as an angle, its order by class and cross product, and the whole
turn that WRAP adds (41_phase_unwrapper.md R102 to R104, R120 to R125). -/

namespace Sys2Proof.Machine

/-! ### The angle of a point (R102) -/

/-- A point as a complex number, whose argument is the phase (`phase_eq_arg`). -/
noncomputable def toComplex (a : IQ) : ℂ := ⟨(a.i : ℝ), (a.q : ℝ)⟩

/-- r = sqrt(i² + q²) (`radius_eq_sqrt`). -/
noncomputable def radius (a : IQ) : ℝ := ‖toComplex a‖

theorem phase_eq_arg (a : IQ) : phase a = (toComplex a).arg := rfl

theorem radius_eq_sqrt (a : IQ) : radius a = Real.sqrt ((a.i : ℝ) ^ 2 + (a.q : ℝ) ^ 2) :=
  Complex.norm_eq_sqrt_sq_add_sq (toComplex a)

theorem toComplex_ne_zero {a : IQ} (h : a ≠ ⟨0, 0⟩) : toComplex a ≠ 0 := by
  intro h0
  obtain ⟨hi, hq⟩ := Complex.ext_iff.mp h0
  have hi' : a.i = 0 := Int.cast_eq_zero.mp hi
  have hq' : a.q = 0 := Int.cast_eq_zero.mp hq
  cases a
  exact h (by rw [IQ.mk.injEq]; exact ⟨hi', hq'⟩)

theorem radius_pos {a : IQ} (h : a ≠ ⟨0, 0⟩) : 0 < radius a :=
  norm_pos_iff.mpr (toComplex_ne_zero h)

theorem neg_pi_lt_phase (a : IQ) : -Real.pi < phase a := Complex.neg_pi_lt_arg _

theorem phase_le_pi (a : IQ) : phase a ≤ Real.pi := Complex.arg_le_pi _

theorem radius_mul_cos_phase (a : IQ) : radius a * Real.cos (phase a) = a.i := Complex.norm_mul_cos_arg _

theorem radius_mul_sin_phase (a : IQ) : radius a * Real.sin (phase a) = a.q := Complex.norm_mul_sin_arg _

theorem phase_neg_iff (a : IQ) : phase a < 0 ↔ a.q < 0 :=
  Complex.arg_neg_iff.trans Int.cast_lt_zero

theorem phase_eq_zero_iff (a : IQ) : phase a = 0 ↔ 0 ≤ a.i ∧ a.q = 0 :=
  Complex.arg_eq_zero_iff.trans (and_congr Int.cast_nonneg_iff Int.cast_eq_zero)

theorem phase_eq_pi_iff (a : IQ) : phase a = Real.pi ↔ a.i < 0 ∧ a.q = 0 :=
  Complex.arg_eq_pi_iff.trans (and_congr Int.cast_lt_zero Int.cast_eq_zero)

theorem phase_pos_iff (a : IQ) : 0 < phase a ↔ 0 < a.q ∨ a.q = 0 ∧ a.i < 0 := by
  rw [← not_le, le_iff_lt_or_eq, phase_neg_iff, phase_eq_zero_iff]
  omega

theorem phase_zero : phase ⟨0, 0⟩ = 0 := (phase_eq_zero_iff _).mpr ⟨le_rfl, rfl⟩

/-- Settles O31. -/
theorem phaseIsTheAngleOfThePoint : Obligations.PhaseIsTheAngleOfThePoint := by
  refine ⟨fun a => ⟨neg_pi_lt_phase a, phase_le_pi a⟩, fun a ha => ?_,
    fun i hi => (phase_eq_pi_iff ⟨i, 0⟩).mpr ⟨hi, rfl⟩, phase_zero⟩
  rw [← radius_eq_sqrt]
  exact ⟨Complex.cos_arg (toComplex_ne_zero ha), Complex.sin_arg _⟩

/-! ### WRAP (R103, R104) -/

theorem wrap_of_pi_lt {x : ℝ} (h : Real.pi < x) : wrap x = x - 2 * Real.pi := if_pos h

theorem wrap_of_le_neg_pi {x : ℝ} (h : x ≤ -Real.pi) : wrap x = x + 2 * Real.pi := by
  have hx : ¬ Real.pi < x := by linarith [Real.pi_pos]
  rw [wrap, if_neg hx, if_pos h]

theorem wrap_of_mem {x : ℝ} (hlo : -Real.pi < x) (hhi : x ≤ Real.pi) : wrap x = x := by
  rw [wrap, if_neg hhi.not_gt, if_neg hlo.not_ge]

/-- Each branch maps its part of (-2π, 2π) into (-π, π]. -/
theorem wrap_mem {x : ℝ} (hlo : -(2 * Real.pi) < x) (hhi : x < 2 * Real.pi) :
    -Real.pi < wrap x ∧ wrap x ≤ Real.pi := by
  have hpi := Real.pi_pos
  unfold wrap
  split_ifs with habove hbelow
  · constructor <;> linarith
  · constructor <;> linarith
  · exact ⟨not_le.mp hbelow, not_lt.mp habove⟩

theorem realDiff_true (p v : IQ) : realDiff p v true = wrap (phase v - phase p) := rfl

theorem realDiff_mem (p v : IQ) (h : Bool) : -Real.pi < realDiff p v h ∧ realDiff p v h ≤ Real.pi := by
  cases h with
  | false => exact ⟨neg_lt_zero.mpr Real.pi_pos, Real.pi_pos.le⟩
  | true =>
    rw [realDiff_true]
    apply wrap_mem <;> linarith [neg_pi_lt_phase p, phase_le_pi p, neg_pi_lt_phase v, phase_le_pi v]

/-- Settles O32. -/
theorem wrapLandsInRange : Obligations.WrapLandsInRange :=
  ⟨fun _ hlo hhi => ⟨wrap_of_pi_lt, wrap_of_le_neg_pi, wrap_of_mem, wrap_mem hlo hhi⟩, realDiff_mem⟩

/-! ### The angular class (R120, R122) -/

/-- The class of an angle in (-π, π]; `phaseClass_eq_angleClass` ties it to the class of a point. -/
noncomputable def angleClass (θ : ℝ) : ℕ :=
  if θ < 0 then 0 else if θ ≤ 0 then 1 else if θ < Real.pi then 2 else 3

theorem phaseClass_eq_angleClass (a : IQ) : phaseClass a = angleClass (phase a) := by
  have hle : phase a ≤ 0 ↔ ¬ (0 < a.q ∨ a.q = 0 ∧ a.i < 0) := by
    rw [← phase_pos_iff, not_lt]
  have hlt : phase a < Real.pi ↔ ¬ (a.i < 0 ∧ a.q = 0) := by
    rw [(phase_le_pi a).lt_iff_ne, Ne, phase_eq_pi_iff]
  simp only [phaseClass, angleClass, phase_neg_iff, hle, hlt]
  split_ifs <;> omega

theorem angleClass_mono : Monotone angleClass := by
  intro x y hxy
  have hpi := Real.pi_pos
  unfold angleClass
  split_ifs <;> grind

theorem phase_lt_of_phaseClass_lt {a b : IQ} (h : phaseClass a < phaseClass b) : phase a < phase b := by
  rw [phaseClass_eq_angleClass, phaseClass_eq_angleClass] at h
  exact angleClass_mono.reflect_lt h

/-- Two points of one class lie less than half a turn apart. -/
theorem abs_phase_sub_lt_pi {a b : IQ} (h : phaseClass a = phaseClass b) : |phase a - phase b| < Real.pi := by
  have hpi := Real.pi_pos
  have ha := neg_pi_lt_phase a
  have hb := neg_pi_lt_phase b
  have ha' := phase_le_pi a
  have hb' := phase_le_pi b
  rw [phaseClass_eq_angleClass, phaseClass_eq_angleClass] at h
  unfold angleClass at h
  rw [abs_lt]
  split_ifs at h <;> constructor <;> linarith

/-- The classes 1 and 3 are one direction each. -/
theorem phase_eq_of_phaseClass_eq {a b : IQ} (h : phaseClass a = phaseClass b)
    (hclass : ¬ (phaseClass a = 0 ∨ phaseClass a = 2)) : phase a = phase b := by
  have ha := phase_le_pi a
  have hb := phase_le_pi b
  rw [phaseClass_eq_angleClass, phaseClass_eq_angleClass] at h
  rw [phaseClass_eq_angleClass] at hclass
  unfold angleClass at h hclass
  split_ifs at h hclass <;> grind

theorem phPos_iff_phaseClass (a : IQ) : phPos a = true ↔ phaseClass a = 2 ∨ phaseClass a = 3 := by
  simp [phPos]

theorem phPos_iff (a : IQ) : phPos a = true ↔ 0 < phase a := by
  rw [phPos_iff_phaseClass, phaseClass_eq_angleClass]
  unfold angleClass
  split_ifs <;> grind

/-! ### The sign of an angle from its sine and cosine -/

section
variable {x : ℝ} (hlo : -Real.pi < x) (hhi : x ≤ Real.pi)
include hlo hhi

/-- What sine and cosine are on the four parts of (-π, π]. -/
theorem sin_cos_cases : (x < 0 ∧ Real.sin x < 0) ∨ (x = 0 ∧ Real.sin x = 0 ∧ Real.cos x = 1) ∨
    (0 < x ∧ 0 < Real.sin x) ∨ (0 < x ∧ Real.sin x = 0 ∧ Real.cos x = -1) := by
  obtain hx | rfl | hx := lt_trichotomy x 0
  · exact .inl ⟨hx, Real.sin_neg_of_neg_of_neg_pi_lt hx hlo⟩
  · exact .inr (.inl ⟨rfl, Real.sin_zero, Real.cos_zero⟩)
  · obtain hlt | rfl := hhi.lt_or_eq
    · exact .inr (.inr (.inl ⟨hx, Real.sin_pos_of_pos_of_lt_pi hx hlt⟩))
    · exact .inr (.inr (.inr ⟨hx, Real.sin_pi, Real.cos_pi⟩))

theorem neg_iff_sin_neg : x < 0 ↔ Real.sin x < 0 := by
  grind [sin_cos_cases hlo hhi]

theorem eq_zero_iff_sin_cos : x = 0 ↔ Real.sin x = 0 ∧ 0 < Real.cos x := by
  grind [sin_cos_cases hlo hhi]

theorem pos_iff_sin_cos : 0 < x ↔ 0 < Real.sin x ∨ (Real.sin x = 0 ∧ Real.cos x < 0) := by
  grind [sin_cos_cases hlo hhi]

end

/-! ### Cross and dot product (R121, R125) -/

theorem cross_eq_sin (a b : IQ) : (cross a b : ℝ) = radius a * radius b * Real.sin (phase b - phase a) := by
  rw [cross, Real.sin_sub]
  push_cast
  rw [← radius_mul_cos_phase a, ← radius_mul_sin_phase a, ← radius_mul_cos_phase b, ← radius_mul_sin_phase b]
  ring

theorem dot_eq_cos (a b : IQ) : (dot a b : ℝ) = radius a * radius b * Real.cos (phase b - phase a) := by
  rw [dot, Real.cos_sub]
  push_cast
  rw [← radius_mul_cos_phase a, ← radius_mul_sin_phase a, ← radius_mul_cos_phase b, ← radius_mul_sin_phase b]
  ring

section
variable {a b : IQ} (ha : a ≠ ⟨0, 0⟩) (hb : b ≠ ⟨0, 0⟩)
include ha hb

/-- The cross product of points other than (0, 0) has the sign of the sine between them. -/
theorem sign_cross : SignType.sign (cross a b) = SignType.sign (Real.sin (phase b - phase a)) := by
  have hr : 0 < radius a * radius b := mul_pos (radius_pos ha) (radius_pos hb)
  rw [← sign_intCast (α := ℝ), cross_eq_sin, sign_mul, sign_pos hr, one_mul]

theorem sign_dot : SignType.sign (dot a b) = SignType.sign (Real.cos (phase b - phase a)) := by
  have hr : 0 < radius a * radius b := mul_pos (radius_pos ha) (radius_pos hb)
  rw [← sign_intCast (α := ℝ), dot_eq_cos, sign_mul, sign_pos hr, one_mul]

theorem cross_neg_iff : cross a b < 0 ↔ Real.sin (phase b - phase a) < 0 := by
  rw [← sign_eq_neg_one_iff, sign_cross ha hb, sign_eq_neg_one_iff]

theorem cross_pos_iff : 0 < cross a b ↔ 0 < Real.sin (phase b - phase a) := by
  rw [← sign_eq_one_iff, sign_cross ha hb, sign_eq_one_iff]

theorem cross_eq_zero_iff : cross a b = 0 ↔ Real.sin (phase b - phase a) = 0 := by
  rw [← sign_eq_zero_iff, sign_cross ha hb, sign_eq_zero_iff]

theorem dot_neg_iff : dot a b < 0 ↔ Real.cos (phase b - phase a) < 0 := by
  rw [← sign_eq_neg_one_iff, sign_dot ha hb, sign_eq_neg_one_iff]

theorem dot_pos_iff : 0 < dot a b ↔ 0 < Real.cos (phase b - phase a) := by
  rw [← sign_eq_one_iff, sign_dot ha hb, sign_eq_one_iff]

end

theorem cross_swap (a b : IQ) : cross b a = -cross a b := by
  unfold cross
  ring

/-! ### The order of phases (R121) -/

theorem ne_zero_of_phaseClass {a : IQ} (h : phaseClass a = 0 ∨ phaseClass a = 2) : a ≠ ⟨0, 0⟩ := by
  rintro rfl
  exact absurd h (by decide)

/-- Within one open half-plane the sign of the cross product is the order of the phases. -/
theorem cross_pos_iff_phase_lt {a b : IQ} (h : phaseClass a = phaseClass b)
    (hclass : phaseClass a = 0 ∨ phaseClass a = 2) : 0 < cross a b ↔ phase a < phase b := by
  obtain ⟨hlo, hhi⟩ := abs_lt.mp (abs_phase_sub_lt_pi h)
  have ha := ne_zero_of_phaseClass hclass
  have hb := ne_zero_of_phaseClass (h ▸ hclass)
  rw [← neg_neg_iff_pos, ← cross_swap, cross_neg_iff hb ha, ← neg_iff_sin_neg hlo hhi.le, sub_neg]

theorem phLt_iff_phaseClass (a b : IQ) : phLt a b = true ↔ phaseClass a < phaseClass b ∨
    (phaseClass a = phaseClass b ∧ (phaseClass a = 0 ∨ phaseClass a = 2) ∧ 0 < cross a b) := by
  simp [phLt, and_assoc]

theorem phLt_iff (a b : IQ) : phLt a b = true ↔ phase a < phase b := by
  rw [phLt_iff_phaseClass]
  obtain hlt | heq | hgt := lt_trichotomy (phaseClass a) (phaseClass b)
  · exact iff_of_true (.inl hlt) (phase_lt_of_phaseClass_lt hlt)
  · rw [or_iff_right heq.not_lt]
    by_cases hclass : phaseClass a = 0 ∨ phaseClass a = 2
    · rw [and_iff_right heq, and_iff_right hclass, cross_pos_iff_phase_lt heq hclass]
    · exact iff_of_false (fun h => hclass h.2.1) (phase_eq_of_phaseClass_eq heq hclass).not_lt
  · have hphase := phase_lt_of_phaseClass_lt hgt
    exact iff_of_false (by omega) hphase.not_gt

theorem phLt_eq_false_iff (a b : IQ) : phLt a b = false ↔ phase b ≤ phase a := by
  rw [← Bool.not_eq_true, phLt_iff, not_lt]

theorem phEq_iff_phLt (a b : IQ) : phEq a b = true ↔ phLt a b = false ∧ phLt b a = false := by
  simp [phEq]

theorem phEq_iff (a b : IQ) : phEq a b = true ↔ phase a = phase b := by
  rw [phEq_iff_phLt, phLt_eq_false_iff, phLt_eq_false_iff, and_comm, le_antisymm_iff]

/-- Both components at most 128 in magnitude: a normalised point or the negation of one (R123). -/
def Within128 (a : IQ) : Prop := a.i.natAbs ≤ 128 ∧ a.q.natAbs ≤ 128

theorem isNormalised.within128 {a : IQ} (h : isNormalised a) : Within128 a := by
  simp only [isNormalised] at h
  simp only [Within128]
  omega

theorem Within128.neg {a : IQ} (h : Within128 a) : Within128 (neg a) := by
  simpa [Within128, Machine.neg] using h

theorem Within128.cross_le {a b : IQ} (ha : Within128 a) (hb : Within128 b) : (cross a b).natAbs ≤ 32768 := by
  obtain ⟨hai, haq⟩ := ha
  obtain ⟨hbi, hbq⟩ := hb
  have hleft : (a.i * b.q).natAbs ≤ 128 * 128 := Int.natAbs_mul _ _ ▸ Nat.mul_le_mul hai hbq
  have hright : (a.q * b.i).natAbs ≤ 128 * 128 := Int.natAbs_mul _ _ ▸ Nat.mul_le_mul haq hbi
  unfold cross
  omega

/-- Settles O33. -/
theorem phLtIsTheOrderOfPhases : Obligations.PhLtIsTheOrderOfPhases :=
  ⟨fun a b => ⟨phLt_iff_phaseClass a b, phLt_iff a b, phEq_iff_phLt a b, phEq_iff a b⟩,
    fun _ _ ha hb => ⟨ha.within128.cross_le hb.within128, ha.within128.neg.cross_le hb.within128,
      ha.within128.cross_le hb.within128.neg⟩⟩

/-! ### NEG (R123) -/

/-- Rotation by π maps (0, π] onto (-π, 0]. -/
theorem phase_neg {a : IQ} (h : 0 < phase a) : phase (neg a) = phase a - Real.pi := by
  have hneg : toComplex (neg a) = -toComplex a := by
    simp [toComplex, neg, Complex.ext_iff]
  rw [phase_eq_arg, phase_eq_arg, hneg, Complex.arg_neg_eq_arg_sub_pi_iff]
  exact ((phase_pos_iff a).mp h).imp Int.cast_pos.mpr (And.imp Int.cast_eq_zero.mpr Int.cast_lt_zero.mpr)

/-- Settles O34. -/
theorem negTurnsBackByPi : Obligations.NegTurnsBackByPi := fun a =>
  ⟨phPos_iff_phaseClass a, phPos_iff a, rfl, fun h => phase_neg ((phPos_iff a).mp h)⟩

/-! ### WDIR (R124) -/

/-- R124's condition for the turn back is that the raw difference is above π. -/
theorem turnBack_iff (p v : IQ) :
    phPos v = true ∧ phLt p (neg v) = true ↔ Real.pi < phase v - phase p := by
  rw [phPos_iff, phLt_iff]
  constructor
  · rintro ⟨hv, hlt⟩
    rw [phase_neg hv] at hlt
    linarith
  · intro h
    have hv : 0 < phase v := by linarith [neg_pi_lt_phase p]
    exact ⟨hv, by rw [phase_neg hv]; linarith⟩

/-- R124's condition for the turn forward is that the raw difference is at or below -π. -/
theorem turnForward_iff (p v : IQ) :
    phPos p = true ∧ phLt (neg p) v = false ↔ phase v - phase p ≤ -Real.pi := by
  rw [phPos_iff, phLt_eq_false_iff]
  constructor
  · rintro ⟨hp, hle⟩
    rw [phase_neg hp] at hle
    linarith
  · intro h
    have hp : 0 < phase p := by linarith [neg_pi_lt_phase v]
    exact ⟨hp, by rw [phase_neg hp]; linarith⟩

theorem wdir_eq (p v : IQ) : wdir p v =
    if Real.pi < phase v - phase p then -1 else if phase v - phase p ≤ -Real.pi then 1 else 0 := by
  simp only [wdir, Bool.and_eq_true, Bool.not_eq_true', turnBack_iff, turnForward_iff]

theorem wdir_eq_neg_one_iff (p v : IQ) : wdir p v = -1 ↔ Real.pi < phase v - phase p := by
  rw [wdir_eq]
  split_ifs with habove hbelow
  · exact iff_of_true rfl habove
  · exact iff_of_false (by decide) habove
  · exact iff_of_false (by decide) habove

theorem wdir_eq_one_iff (p v : IQ) : wdir p v = 1 ↔ phase v - phase p ≤ -Real.pi := by
  rw [wdir_eq]
  split_ifs with habove hbelow
  · exact iff_of_false (by decide) (by linarith [Real.pi_pos])
  · exact iff_of_true rfl hbelow
  · exact iff_of_false (by decide) hbelow

theorem wdir_cases (p v : IQ) : wdir p v = -1 ∨ wdir p v = 0 ∨ wdir p v = 1 := by
  rw [wdir_eq]
  split_ifs <;> simp

theorem realDiff_eq_wdir (p v : IQ) :
    realDiff p v true = phase v - phase p + 2 * Real.pi * (wdir p v : ℝ) := by
  rw [realDiff_true, wrap, wdir_eq]
  split_ifs <;> push_cast <;> ring

/-- Settles O35. -/
theorem wdirIsTheWrapCorrection : Obligations.WdirIsTheWrapCorrection := by
  intro p v
  refine ⟨realDiff_eq_wdir p v, wdir_eq_neg_one_iff p v, ?_, wdir_eq_one_iff p v, ?_, wdir_cases p v, ?_⟩
  · rw [turnBack_iff, wdir_eq_neg_one_iff]
  · rw [turnForward_iff, wdir_eq_one_iff]
  · rw [turnBack_iff, turnForward_iff]
    rintro ⟨habove, hbelow⟩
    linarith [Real.pi_pos]

/-! ### The sign of one difference (R125) -/

theorem unzero_ne_zero (a : IQ) : unzero a ≠ ⟨0, 0⟩ := by
  unfold unzero
  split
  · decide
  · assumption

theorem phase_unzero (a : IQ) : phase (unzero a) = phase a := by
  unfold unzero
  split
  next h => rw [h, IQ.zero, phase_zero, phase_eq_zero_iff]; exact ⟨Int.one_nonneg, rfl⟩
  next => rfl

theorem sin_wrap (x : ℝ) : Real.sin (wrap x) = Real.sin x := by
  unfold wrap
  split_ifs
  · exact Real.sin_sub_two_pi x
  · exact Real.sin_add_two_pi x
  · rfl

theorem cos_wrap (x : ℝ) : Real.cos (wrap x) = Real.cos x := by
  unfold wrap
  split_ifs
  · exact Real.cos_sub_two_pi x
  · exact Real.cos_add_two_pi x
  · rfl

section
variable (p v : IQ)

theorem sin_realDiff : Real.sin (realDiff p v true) = Real.sin (phase (unzero v) - phase (unzero p)) := by
  rw [realDiff_true, sin_wrap, phase_unzero, phase_unzero]

theorem cos_realDiff : Real.cos (realDiff p v true) = Real.cos (phase (unzero v) - phase (unzero p)) := by
  rw [realDiff_true, cos_wrap, phase_unzero, phase_unzero]

theorem realDiff_pos_iff : 0 < realDiff p v true ↔ 0 < cross (unzero p) (unzero v) ∨
    (cross (unzero p) (unzero v) = 0 ∧ dot (unzero p) (unzero v) < 0) := by
  obtain ⟨hlo, hhi⟩ := realDiff_mem p v true
  have hp := unzero_ne_zero p
  have hv := unzero_ne_zero v
  rw [pos_iff_sin_cos hlo hhi, sin_realDiff, cos_realDiff, cross_pos_iff hp hv, cross_eq_zero_iff hp hv, dot_neg_iff hp hv]

theorem realDiff_eq_zero_iff : realDiff p v true = 0 ↔
    cross (unzero p) (unzero v) = 0 ∧ 0 < dot (unzero p) (unzero v) := by
  obtain ⟨hlo, hhi⟩ := realDiff_mem p v true
  have hp := unzero_ne_zero p
  have hv := unzero_ne_zero v
  rw [eq_zero_iff_sin_cos hlo hhi, sin_realDiff, cos_realDiff, cross_eq_zero_iff hp hv, dot_pos_iff hp hv]

theorem realDiff_neg_iff : realDiff p v true < 0 ↔ cross (unzero p) (unzero v) < 0 := by
  obtain ⟨hlo, hhi⟩ := realDiff_mem p v true
  rw [neg_iff_sin_neg hlo hhi, sin_realDiff, cross_neg_iff (unzero_ne_zero p) (unzero_ne_zero v)]

/-- The integer sign is the sign of the real difference. -/
theorem diffSign_eq_sign : diffSign p v = SignType.sign (realDiff p v true) := by
  simp only [diffSign]
  split_ifs with hpos hneg hdot
  · rw [sign_pos ((realDiff_pos_iff p v).mpr (.inl hpos)), SignType.coe_one]
  · rw [sign_neg ((realDiff_neg_iff p v).mpr hneg), SignType.coe_neg_one]
  · have hcross : cross (unzero p) (unzero v) = 0 := by omega
    rw [sign_pos ((realDiff_pos_iff p v).mpr (.inr ⟨hcross, hdot⟩)), SignType.coe_one]
  · have hle : realDiff p v true ≤ 0 := not_lt.mp fun h => ((realDiff_pos_iff p v).mp h).elim hpos fun h => hdot h.2
    have hge : 0 ≤ realDiff p v true := not_lt.mp fun h => hneg ((realDiff_neg_iff p v).mp h)
    rw [le_antisymm hle hge, sign_zero, SignType.coe_zero]

end

/-- Settles O36: the sine of the difference has the sign of CROSS, its cosine that of the dot product. -/
theorem diffSignFromCrossAndDot : Obligations.DiffSignFromCrossAndDot := by
  have hcast : ∀ σ : SignType, ((σ : ℤ) = 1 ↔ σ = 1) ∧ ((σ : ℤ) = 0 ↔ σ = 0) ∧ ((σ : ℤ) = -1 ↔ σ = -1) := by
    decide
  intro p v
  obtain ⟨hone, hzero, hnegOne⟩ := hcast (SignType.sign (realDiff p v true))
  rw [← diffSign_eq_sign] at hone hzero hnegOne
  exact ⟨realDiff_pos_iff p v, realDiff_eq_zero_iff p v, realDiff_neg_iff p v, hone.trans sign_eq_one_iff,
    hzero.trans sign_eq_zero_iff, hnegOne.trans sign_eq_neg_one_iff⟩

end Sys2Proof.Machine
end

section
/-! SUPPORT. PROOFS of the phase unwrapper family: SAMPLE outside an interval, and SAMPLE in the exact integer form as a
refinement of SAMPLE on exact reals (41_phase_unwrapper.md R105, R110; 42_bit_slicer.md R131 to R136, R140, R141). -/

namespace Sys2Proof.Machine

/-! ### SAMPLE outside an interval (R110) -/

/-- Settles O24: SLICE without flags does nothing while no interval is open. -/
theorem sampleOutsideAnInterval : Obligations.SampleOutsideAnInterval := by
  intro s ib qb hclosed
  have hslice (d : PhaseStep) (v : IQ) : slice Config.params false false d (s.notePrev v) = s.notePrev v := by
    simp [slice, hclosed]
  rw [exec_eq_next, State.after, hslice]
  rfl

/-! ### The real value of a window's sum (R140, R141) -/

/-- ACC as a real number when `last` is the latest accumulated sample (R140). -/
noncomputable def PhaseAcc.value (a : PhaseAcc) (last : IQ) : ℝ :=
  phase last - phase a.ref + 2 * Real.pi * (a.turns : ℝ)

theorem State.accReal_of_sc_eq_zero {s : State} (h : s.sc = 0) : s.accReal = 0 := if_pos h

theorem State.accReal_of_sc_ne_zero {s : State} (h : s.sc ≠ 0) : s.accReal = s.acc.value s.prev := if_neg h

/-- The exact datum of a difference has the difference as its value, also for the first sample of a capture (R104, R124). -/
theorem value_diff (p v : IQ) (h : Bool) : (diff p v h).value = realDiff p v h := by
  cases h with
  | false => simp [diff, PhaseStep.value, realDiff]
  | true => exact (realDiff_eq_wdir p v).symm

theorem diff_stop (p v : IQ) (h : Bool) : (diff p v h).stop = v := by
  cases h <;> rfl

/-- The first difference of a window is its sum (R140). -/
theorem PhaseAcc.value_add_first (a : PhaseAcc) (d : PhaseStep) : (a.add true d).value d.stop = d.value := rfl

/-- A difference that starts at the latest sample adds its value to the sum: the phases between cancel (R140). -/
theorem PhaseAcc.value_add (a : PhaseAcc) (d : PhaseStep) :
    (a.add false d).value d.stop = a.value d.start + d.value := by
  simp only [PhaseAcc.add, PhaseAcc.value, PhaseStep.value, Bool.false_eq_true, if_false]
  push_cast
  ring

/-- R141: two phases lie less than a whole turn apart, so the turns decide the sign, and without turns the order of the phases. -/
theorem PhaseAcc.isPos_iff (a : PhaseAcc) (last : IQ) : a.isPos last = true ↔ 0 < a.value last := by
  have hpi := Real.pi_pos
  have hlo : -(2 * Real.pi) < phase last - phase a.ref := by
    linarith [neg_pi_lt_phase last, phase_le_pi a.ref]
  have hhi : phase last - phase a.ref < 2 * Real.pi := by
    linarith [neg_pi_lt_phase a.ref, phase_le_pi last]
  have hdef : a.isPos last = true ↔ 1 ≤ a.turns ∨ (a.turns = 0 ∧ phLt a.ref last = true) := by
    simp [PhaseAcc.isPos]
  rw [hdef, phLt_iff, PhaseAcc.value]
  obtain hneg | hzero | hpos := lt_trichotomy a.turns 0
  · have hturns : (a.turns : ℝ) ≤ -1 := by exact_mod_cast Int.le_sub_one_of_lt hneg
    exact iff_of_false (by omega) (by nlinarith)
  · simp [hzero]
  · have hturns : (1 : ℝ) ≤ a.turns := by exact_mod_cast hpos
    exact iff_of_true (.inl hpos) (by nlinarith)

/-- Adding the difference of a SAMPLE to the integer sum adds it to the real sum; with no sample before (HAVEPREV = 0) the window
must have none either. -/
theorem State.value_add_diff {s : State} (h : s.haveprev = false → s.sc = 0) (v : IQ) :
    (s.acc.add (s.sc == 0) (diff s.prev v s.haveprev)).value (diff s.prev v s.haveprev).stop =
      s.accReal + realDiff s.prev v s.haveprev := by
  rw [← value_diff]
  by_cases hsc : s.sc = 0
  · rw [beq_iff_eq.mpr hsc, PhaseAcc.value_add_first, accReal_of_sc_eq_zero hsc, zero_add]
  · have hprev : s.haveprev = true := by simpa using mt h hsc
    have hstart : (diff s.prev v s.haveprev).start = s.prev := by rw [hprev]; rfl
    rw [beq_eq_false_iff_ne.mpr hsc, PhaseAcc.value_add, accReal_of_sc_ne_zero hsc, hstart]

/-! ### The slicer's operations on reals (R131 to R136)

In the middle of a SAMPLE, PREV is the new sample while ACC is still the sum up to the one before, so a state is paired with
the real sum given apart. -/

/-- The real-valued state of `s` with the sum `x` in the place of its own. -/
def State.withSum (s : State) (x : ℝ) : RealState := ⟨{ s with acc := PhaseAcc.zero }, x⟩

theorem State.toReal_eq_withSum (s : State) : s.toReal = s.withSum s.accReal := rfl

theorem State.toReal_of_sc_eq_zero {s : State} (h : s.sc = 0) : s.toReal = s.withSum 0 := by
  rw [toReal_eq_withSum, accReal_of_sc_eq_zero h]

theorem State.withSum_ivopen (s : State) (x : ℝ) : (s.withSum x).rest.ivopen = s.ivopen := rfl

theorem State.withSum_record (s : State) (e : ErrorBit) (x : ℝ) :
    (s.record e).withSum x = ⟨(s.withSum x).rest.record e, x⟩ := by
  cases e <;> rfl

/-- ACCUM: `y` is the difference and `x + y` the sum with it. -/
theorem toReal_accum {s : State} {d : PhaseStep} {x y : ℝ} (hstop : d.stop = s.prev)
    (hsum : (s.acc.add (s.sc == 0) d).value d.stop = x + y) : (accum d s).toReal = realAccum y (s.withSum x) := by
  obtain ⟨hsc, hres⟩ | ⟨hsc, hres⟩ := accum_cases d s
  · have hreal : realAccum y (s.withSum x) = (s.holdSum (s.acc.add (s.sc == 0) d)).withSum (x + y) := if_neg hsc
    rw [hres, hreal, ← hsum, hstop]
    rfl
  · have hbit : (s.acc.add (s.sc == 0) d).isPos d.stop = decide (0 < x + y) := by
      rw [Bool.eq_iff_iff, PhaseAcc.isPos_iff, hsum, decide_eq_true_iff]
    have hreal : realAccum y (s.withSum x) = (s.dump (decide (0 < x + y))).withSum 0 := if_pos hsc
    rw [hres, hreal, hbit, State.toReal_of_sc_eq_zero rfl]

theorem dedupInsert_withSum (cfg : Config.Params) (v : Frame) (s : State) (x : ℝ) :
    dedupInsert cfg v (s.withSum x).rest = ((dedupInsert cfg v s).withSum x).rest := by
  simp only [dedupInsert, apply_ite (fun t : State => (t.withSum x).rest)]
  rfl

/-- CLOSE does not read the sum and ends with ACC = 0. -/
theorem closeInterval_withSum (cfg : Config.Params) (s : State) (x : ℝ) :
    closeInterval cfg (s.withSum x).rest = closeInterval cfg s := by
  obtain ⟨hlen, hres⟩ | ⟨hlen, hres⟩ := closeInterval_cases cfg s
  · have habort : (dedupInsert cfg s.shr (s.withSum x).rest).abortInterval = (dedupInsert cfg s.shr s).abortInterval := by
      rw [dedupInsert_withSum]
      rfl
    rw [hres]
    exact (if_pos hlen).trans habort
  · rw [hres]
    exact if_neg hlen

theorem toReal_closeInterval (cfg : Config.Params) (s : State) (x : ℝ) :
    (closeInterval cfg s).toReal = realClose cfg (s.withSum x) := by
  rw [realClose, closeInterval_withSum]
  obtain ⟨-, hres⟩ | ⟨-, hres⟩ := closeInterval_cases cfg s
  · rw [hres]
    rfl
  · rw [hres]
    rfl

section
variable {s : State} {d : PhaseStep} {x y : ℝ}

theorem toReal_accumClose (cfg : Config.Params) (eoi : Bool) (hstop : d.stop = s.prev)
    (hsum : (s.acc.add (s.sc == 0) d).value d.stop = x + y) :
    (accumClose cfg eoi d s).toReal =
      if eoi then realClose cfg (realAccum y (s.withSum x)) else realAccum y (s.withSum x) := by
  rw [← toReal_accum hstop hsum]
  cases eoi with
  | false => rfl
  | true => exact toReal_closeInterval cfg (accum d s) _

/-- The abort of an interval that SOI found open leaves the sum 0; with no interval open it is 0 already. -/
theorem withSum_abortUnclosed (hclosed : s.ivopen = false → x = 0) :
    (if (s.withSum x).rest.ivopen = true then ⟨((s.withSum x).rest.record .perr).abortInterval, 0⟩ else s.withSum x) =
      (abortUnclosed s).withSum 0 := by
  obtain ⟨ho, hres⟩ | ⟨ho, hres⟩ := abortUnclosed_cases s
  · rw [hres]
    exact if_pos ho
  · rw [hres, ← hclosed ho]
    exact if_neg (ho ▸ Bool.false_ne_true)

theorem abortUnclosed_sc (h : s.ivopen = false → s.sc = 0) : (abortUnclosed s).sc = 0 := by
  obtain ⟨-, hres⟩ | ⟨ho, hres⟩ := abortUnclosed_cases s
  · rw [hres, State.abortInterval_sc]
  · rw [hres, h ho]

/-- SLICE of a state with the sum `x` and a difference of value `y`, PREV being the new sample. -/
theorem toReal_slice (cfg : Config.Params) (soi eoi : Bool) (hclosed : s.ivopen = false → s.sc = 0 ∧ x = 0)
    (hstop : d.stop = s.prev) (hvalue : d.value = y) (hsum : (s.acc.add (s.sc == 0) d).value d.stop = x + y) :
    (slice cfg soi eoi d s).toReal = realSlice cfg soi eoi y (s.withSum x) := by
  have habort := withSum_abortUnclosed fun h => (hclosed h).2
  have hspb : ((abortUnclosed s).withSum 0).rest.spb = s.spb := abortUnclosed_spb s
  obtain ⟨rfl, hzero, hres⟩ | ⟨rfl, hne, hres⟩ | ⟨rfl, rfl, ho, hres⟩ | ⟨rfl, ho, hres⟩ | ⟨rfl, rfl, ho, hres⟩ :=
    slice_cases cfg soi eoi d s
  · have hsc : (abortUnclosed s).sc = 0 := abortUnclosed_sc fun h => (hclosed h).1
    rw [hres, State.toReal_of_sc_eq_zero (by rw [State.record_sc, hsc]), State.withSum_record]
    simp only [realSlice, if_true, habort, hspb, hzero]
    rfl
  · have hstop' : d.stop = (abortUnclosed s).openInterval.prev :=
      hstop.trans (SlicerKeeps.abortUnclosed s).prev.symm
    have hsum' : d.value = 0 + y := by rw [hvalue, zero_add]
    rw [hres, toReal_accumClose cfg eoi hstop' hsum']
    simp only [realSlice, if_true, habort, hspb, if_neg hne]
    rfl
  · obtain ⟨hsc, rfl⟩ := hclosed ho
    rw [hres, State.toReal_of_sc_eq_zero (by rw [State.record_sc, hsc]), State.withSum_record]
    simp [realSlice, State.withSum, ho]
  · rw [hres, toReal_accumClose cfg eoi hstop hsum]
    simp [realSlice, State.withSum_ivopen, ho]
  · obtain ⟨hsc, rfl⟩ := hclosed ho
    rw [hres, State.toReal_of_sc_eq_zero hsc]
    simp [realSlice, State.withSum_ivopen, ho]

end

/-- Settles O39: after PREV is noted the state has the old sum, and SLICE on it refines SLICE on reals. -/
theorem sampleRefinesTheRealSlicer : Obligations.SampleRefinesTheRealSlicer := by
  intro s ib qb soi eoi hs
  have hclosed (h : s.ivopen = false) : s.sc = 0 ∧ s.accReal = 0 :=
    ⟨hs.closedSc h, State.accReal_of_sc_eq_zero (hs.closedSc h)⟩
  have hprev (h : s.haveprev = false) : s.sc = 0 := hs.closedSc (hs.openPrev h)
  exact ⟨s.after (.sample ib qb soi eoi), exec_eq_next _ s,
    toReal_slice (s := s.notePrev (normalise ib qb)) _ soi eoi hclosed (diff_stop _ _ _) (value_diff _ _ _)
      (State.value_add_diff hprev _)⟩

end Sys2Proof.Machine
end

section
/-! SUPPORT. PROOFS of the bit slicer family: SETSPB, END with the dedup table, and SAMPLE inside an interval
(42_bit_slicer.md R131 to R136, R140, R141, R145, R150, R151). -/

namespace Sys2Proof.Machine

/-! ### SETSPB (R150) -/

/-- Settles O13. -/
theorem setspbWritesOrRefuses : Obligations.SetspbWritesOrRefuses := fun s w => exec_eq_next (.setspb w) s

/-! ### END (R135, R145, R151) -/

section
variable {s : State} {v : Frame} (cfg : Config.Params)

theorem State.hasString_eq_false_iff : s.hasString v = false ↔ ∀ k, k < s.nstr.toNat → s.dt.read k ≠ v := by
  rw [← Bool.not_eq_true, hasString_iff]
  push Not
  rfl

theorem dedupInsert_of_known (h : s.hasString v = true) : dedupInsert cfg v s = s := if_pos h

variable (hnew : s.hasString v = false)
include hnew

theorem dedupInsert_of_room (hroom : s.nstr.toNat < cfg.depth) : dedupInsert cfg v s = s.addString v := by
  rw [dedupInsert, hnew, if_neg Bool.false_ne_true, if_pos hroom]

theorem dedupInsert_of_full (hfull : cfg.depth ≤ s.nstr.toNat) : dedupInsert cfg v s = s.record .ovf := by
  rw [dedupInsert, hnew, if_neg Bool.false_ne_true, if_neg hfull.not_gt]

end

section
variable {s : State}

theorem State.after_end_of_closed (h : s.ivopen = false) : s.after .endInterval = s :=
  if_neg (h ▸ Bool.false_ne_true)

theorem State.after_end_of_open (h : s.ivopen = true) : s.after .endInterval = closeInterval Config.params s :=
  if_pos h

/-- END of an interval that is not 64 symbols long (R135). -/
theorem exec_end_of_otherLength (ho : s.ivopen = true) (hlen : s.nsym.toNat ≠ 64) :
    exec .endInterval s = .next s.abortInterval := by
  have hclose : closeInterval Config.params s = s.abortInterval := if_neg hlen
  rw [exec_eq_next, State.after_end_of_open ho, hclose]

/-- END of an interval of 64 symbols (R135). -/
theorem exec_end_of_fullLength (ho : s.ivopen = true) (hlen : s.nsym.toNat = 64) :
    exec .endInterval s = .next (dedupInsert Config.params s.shr s).abortInterval := by
  have hclose : closeInterval Config.params s = (dedupInsert Config.params s.shr s).abortInterval := if_pos hlen
  rw [exec_eq_next, State.after_end_of_open ho, hclose]

end

/-- Settles O19. -/
theorem endWithoutIntervalDoesNothing : Obligations.EndWithoutIntervalDoesNothing := by
  intro s hclosed
  rw [exec_eq_next, State.after_end_of_closed hclosed]

/-- Settles O20. -/
theorem endDiscardsOtherLengths : Obligations.EndDiscardsOtherLengths :=
  fun _ => exec_end_of_otherLength

/-- Settles O21: the table is the one with DT[NSTR] written. -/
theorem endInsertsANewString : Obligations.EndInsertsANewString := by
  intro s ho hlen hnew hroom
  refine ⟨s.dt.write s.nstr.toNat s.shr, ?_, s.addString_read_nstr s.shr, fun _ => State.addString_read_other s.shr⟩
  rw [exec_end_of_fullLength ho hlen, dedupInsert_of_room _ (State.hasString_eq_false_iff.mpr hnew) hroom]
  rfl

/-- Settles O22. -/
theorem endKeepsAKnownString : Obligations.EndKeepsAKnownString := by
  intro s ho hlen hknown
  rw [exec_end_of_fullLength ho hlen, dedupInsert_of_known _ ((s.hasString_iff s.shr).mpr hknown)]
  rfl

/-- Settles O23. -/
theorem endDropsANewStringWhenFull : Obligations.EndDropsANewStringWhenFull := by
  intro s ho hlen hnew hfull
  rw [exec_end_of_fullLength ho hlen, dedupInsert_of_full _ (State.hasString_eq_false_iff.mpr hnew) hfull]
  rfl

/-! ### SAMPLE with SOI opens an interval on itself (R131, R132, R136) -/

/-- The state in which a SAMPLE with SOI is accumulated: an open interval is aborted with PERR, and a new one is open. -/
def State.atSoi (s : State) : State := (abortUnclosed s).openInterval

theorem State.atSoi_eq (s : State) : s.atSoi =
    { s with ivopen := true, acc := PhaseAcc.zero, sc := 0, nsym := 0, shr := 0, perr := s.perr || s.ivopen } := by
  obtain ⟨ho, hres⟩ | ⟨ho, hres⟩ := abortUnclosed_cases s
  · rw [atSoi, hres, ho, Bool.or_true]
    rfl
  · rw [atSoi, hres, ho, Bool.or_false]
    rfl

theorem State.atSoi_keeps (s : State) : SlicerKeeps s s.atSoi := (SlicerKeeps.abortUnclosed s).trans (.openInterval _)

/-- Whether an interval is open does not depend on PREV. -/
theorem State.atSoi_notePrev (s : State) (v : IQ) : (s.notePrev v).atSoi = s.atSoi.notePrev v := by
  rw [atSoi_eq, atSoi_eq]
  rfl

section
variable {s : State} (ib qb : Byte)

/-- SAMPLE without SOI while an interval is open (R131). -/
theorem State.after_sample_of_open (ho : s.ivopen = true) (eoi : Bool) : s.after (.sample ib qb false eoi) =
    accumClose Config.params eoi (diff s.prev (normalise ib qb) s.haveprev) (s.notePrev (normalise ib qb)) := by
  simp [after, slice, ho]

theorem State.after_sample_soi (hspb : s.spb ≠ 0) (eoi : Bool) :
    s.after (.sample ib qb true eoi) = s.atSoi.after (.sample ib qb false eoi) := by
  have hopen : s.atSoi.ivopen = true := rfl
  have hslice (d : PhaseStep) (v : IQ) : slice Config.params true eoi d (s.notePrev v) =
      accumClose Config.params eoi d (s.notePrev v).atSoi := by
    have hspb' : (abortUnclosed (s.notePrev v)).spb ≠ 0 := by rwa [abortUnclosed_spb]
    rw [slice, if_pos rfl, if_neg hspb', State.atSoi]
  rw [after_sample_of_open ib qb hopen, after, hslice, atSoi_notePrev, s.atSoi_keeps.prev, s.atSoi_keeps.haveprev]

end

/-- Settles O27. -/
theorem sampleSoiOpensAnInterval : Obligations.SampleSoiOpensAnInterval := by
  intro s ib qb eoi hspb
  rw [exec_eq_next, exec_eq_next, State.after_sample_soi ib qb hspb, State.atSoi_eq]
  rfl

/-! ### SAMPLE inside an interval (R133, R140, R141) -/

/-- The datum added to the sum, written out: REF is the window's first starting point, N counts the turns (R140). -/
theorem PhaseAcc.add_diff (a : PhaseAcc) (n : Nat) (p v : IQ) (h : Bool) :
    a.add (n == 0) (diff p v h) =
      ⟨if n = 0 then (if h then p else v) else a.ref,
        (if n = 0 then 0 else a.turns) + (if h then wdir p v else 0)⟩ := by
  by_cases hn : n = 0 <;> cases h <;> simp [PhaseAcc.add, diff, hn]

theorem PhaseAcc.isPos_iff_turns (a : PhaseAcc) (last : IQ) :
    a.isPos last = true ↔ 1 ≤ a.turns ∨ (a.turns = 0 ∧ phLt a.ref last = true) := by
  simp [PhaseAcc.isPos]

section
variable {s : State} {d : PhaseStep}

theorem accum_of_inside (h : s.sc + 1 ≠ s.spb.toNat) : accum d s = s.holdSum (s.acc.add (s.sc == 0) d) := if_neg h

theorem accum_of_full (h : s.sc + 1 = s.spb.toNat) :
    accum d s = s.dump ((s.acc.add (s.sc == 0) d).isPos d.stop) := if_pos h

@[simp] theorem accum_ivopen (d : PhaseStep) (s : State) : (accum d s).ivopen = s.ivopen := by
  obtain ⟨-, hres⟩ | ⟨-, hres⟩ := accum_cases d s <;> simp [hres]

end

theorem shiftIn_eq_or_ite (r : Frame) (b : Bool) : shiftIn r b = (r <<< 1) ||| (if b = true then 1 else 0) := by
  cases b <;> rfl

theorem satSucc_toNat (n : Half) : (satSucc n).toNat = min (n.toNat + 1) 0xFFFF := by
  rw [satSucc, BitVec.toNat_ofNat]
  exact Nat.mod_eq_of_lt (by omega)

theorem satSucc_eq (n : Half) : satSucc n = if n = 0xFFFF then 0xFFFF else n + 1 := by
  refine BitVec.eq_of_toNat_eq ?_
  rw [satSucc_toNat]
  split
  next h => rw [h]; rfl
  next h => bv_omega

/-- Settles O28. -/
theorem sampleAccumulates : Obligations.SampleAccumulates := by
  intro s ib qb ho hsc v
  have hacc : accum (diff s.prev v s.haveprev) (s.notePrev v) = _ := accum_of_inside (s := s.notePrev v) hsc
  have hadd := s.acc.add_diff s.sc s.prev v s.haveprev
  rw [exec_eq_next, State.after_sample_of_open ib qb ho]
  exact congrArg Host.Outcome.next (hacc.trans (congrArg (s.notePrev v).holdSum hadd))

/-- Settles O29. -/
theorem sampleDumpsABit : Obligations.SampleDumpsABit := by
  intro s ib qb ho hsc v ref n
  have hacc : accum (diff s.prev v s.haveprev) (s.notePrev v) = _ := accum_of_full (s := s.notePrev v) hsc
  have hadd : s.acc.add (s.sc == 0) (diff s.prev v s.haveprev) = ⟨ref, n⟩ := s.acc.add_diff s.sc s.prev v s.haveprev
  have hbit : shiftIn s.shr ((PhaseAcc.mk ref n).isPos v) =
      (s.shr <<< 1) ||| (if 1 ≤ n ∨ (n = 0 ∧ phLt ref v = true) then 1 else 0) := by
    simp only [shiftIn_eq_or_ite, PhaseAcc.isPos_iff_turns]
  have hdump : accum (diff s.prev v s.haveprev) (s.notePrev v) =
      (s.notePrev v).dump ((PhaseAcc.mk ref n).isPos v) := by
    rw [hacc, diff_stop, ← hadd]
    rfl
  rw [exec_eq_next, State.after_sample_of_open ib qb ho, ← hbit, ← satSucc_eq]
  exact congrArg Host.Outcome.next hdump

theorem State.after_sample_ivopen {s : State} (ib qb : Byte) (ho : s.ivopen = true) :
    (s.after (.sample ib qb false false)).ivopen = true := by
  rw [after_sample_of_open ib qb ho]
  exact (accum_ivopen _ _).trans ho

/-- EOI closes the interval that END would close: the accumulated sample leaves it open (R131, R151). -/
theorem State.after_sample_eoi {s : State} (ib qb : Byte) (ho : s.ivopen = true) :
    s.after (.sample ib qb false true) = (s.after (.sample ib qb false false)).after .endInterval := by
  rw [after_end_of_open (after_sample_ivopen ib qb ho), after_sample_of_open ib qb ho, after_sample_of_open ib qb ho]
  rfl

/-- Settles O30. -/
theorem sampleEoiClosesLikeEnd : Obligations.SampleEoiClosesLikeEnd := by
  intro s ib qb ho
  rw [exec_eq_next, State.after_sample_eoi ib qb ho, execAll_cons, execAll_cons, execAll]

end Sys2Proof.Machine
end

section
/-! SUPPORT. PROOFS of the bit slicer family: an interval on exact reals and its bits in the array form, which the machine's
intervals refine (42_bit_slicer.md R134, R137 to R139, R141). -/

namespace Sys2Proof.Machine

/-! ### The sign of a window's sum (R141) -/

/-- Two phases lie less than a whole turn apart, so a sum of 0 has no turns. -/
theorem PhaseAcc.value_eq_zero_iff (a : PhaseAcc) (last : IQ) :
    a.value last = 0 ↔ a.turns = 0 ∧ phEq a.ref last = true := by
  rw [phEq_iff, PhaseAcc.value]
  constructor
  · intro h
    have hpi := Real.pi_pos
    have hlo : (-1 : ℝ) < a.turns := by nlinarith [neg_pi_lt_phase a.ref, phase_le_pi last]
    have hhi : (a.turns : ℝ) < 1 := by nlinarith [neg_pi_lt_phase last, phase_le_pi a.ref]
    have hlo' : -1 < a.turns := by exact_mod_cast hlo
    have hhi' : a.turns < 1 := by exact_mod_cast hhi
    have hturns : a.turns = 0 := by omega
    rw [hturns, Int.cast_zero, mul_zero, add_zero] at h
    exact ⟨hturns, (sub_eq_zero.mp h).symm⟩
  · rintro ⟨hturns, hphase⟩
    rw [hturns, hphase, sub_self, Int.cast_zero, mul_zero, add_zero]

/-- Settles O37. -/
theorem integerFormGivesTheSignOfTheSum : Obligations.IntegerFormGivesTheSignOfTheSum := fun a last =>
  ⟨a.isPos_iff_turns last, a.isPos_iff last, (a.value_eq_zero_iff last).symm⟩

/-! ### The bit of a full window (R134) -/

/-- SAMPLE inside an interval, on reals: the difference joins the sum of the window. -/
theorem State.toReal_after_sample {s : State} (ho : s.ivopen = true) (hprev : s.haveprev = false → s.sc = 0)
    (ib qb : Byte) : (s.after (.sample ib qb false false)).toReal =
      realAccum (realDiff s.prev (normalise ib qb) s.haveprev) ((s.notePrev (normalise ib qb)).withSum s.accReal) := by
  rw [after_sample_of_open ib qb ho]
  exact toReal_accum (diff_stop _ _ _) (value_add_diff hprev _)

theorem realAccum_of_full {r : RealState} (h : r.rest.sc + 1 = r.rest.spb.toNat) (d : ℝ) :
    realAccum d r = ⟨r.rest.dump (decide (0 < r.acc + d)), 0⟩ := if_pos h

theorem realAccum_of_inside {r : RealState} (h : r.rest.sc + 1 ≠ r.rest.spb.toNat) (d : ℝ) :
    realAccum d r = ⟨{ r.rest with sc := r.rest.sc + 1 }, r.acc + d⟩ := if_neg h

/-- Settles O38. -/
theorem bitIsOneIffSumIsPositive : Obligations.BitIsOneIffSumIsPositive := by
  intro s ib qb hs ho hsc
  have hprev (h : s.haveprev = false) : s.sc = 0 := hs.closedSc (hs.openPrev h)
  have hreal := State.toReal_after_sample ho hprev ib qb
  rw [realAccum_of_full (show s.sc + 1 = s.spb.toNat from hsc)] at hreal
  have hshr : (s.after (.sample ib qb false false)).shr =
      shiftIn s.shr (decide (0 < s.accReal + realDiff s.prev (normalise ib qb) s.haveprev)) :=
    congrArg (fun r => r.rest.shr) hreal
  refine ⟨_, exec_eq_next _ s, fun hpos => ?_, fun hle => ?_⟩
  · rw [hshr, shiftIn_eq_or_ite, decide_eq_true hpos, if_pos rfl]
  · rw [hshr, shiftIn_eq_or_ite, decide_eq_false hle.not_gt, if_neg Bool.false_ne_true]
    exact BitVec.or_zero

/-! ### The windows of a list of differences (R137, R138) -/

/-- The differences after the last whole window: those that no bit has yet. -/
def windowRest (w : Nat) (ds : List ℝ) : List ℝ := ds.drop (ds.length / w * w)

/-- A whole window of `ds` is the same window of any longer list. -/
theorem windowBit_append {w : Nat} {ds : List ℝ} {j : Nat} (hj : j < ds.length / w) (es : List ℝ) :
    windowBit w (ds ++ es) j = windowBit w ds j := by
  have hend : (j + 1) * w ≤ ds.length := (Nat.mul_le_mul_right w hj).trans (Nat.div_mul_le_self _ _)
  rw [Nat.succ_mul] at hend
  have hwindow : ((ds ++ es).drop (j * w)).take w = (ds.drop (j * w)).take w := by
    rw [List.drop_append_of_le_length (by omega), List.take_append_of_le_length (by rw [List.length_drop]; omega)]
  rw [windowBit, windowBit, hwindow]

/-- Differences that fill no further window change no bit. -/
theorem windowBits_append {w : Nat} {ds es : List ℝ} (h : (ds ++ es).length / w = ds.length / w) :
    windowBits w (ds ++ es) = windowBits w ds := by
  rw [windowBits, windowBits, h]
  exact List.map_congr_left fun j hj => windowBit_append (List.mem_range.mp hj) es

/-- Without the remainder the bits are the same. -/
theorem windowBits_take (w : Nat) (ds : List ℝ) :
    windowBits w (ds.take (ds.length - ds.length % w)) = windowBits w ds := by
  have hlen : (ds.take (ds.length - ds.length % w)).length / w = ds.length / w := by
    rw [List.length_take_of_le (Nat.sub_le _ _), ← Nat.div_eq_sub_mod_div]
  conv_rhs => rw [← List.take_append_drop (ds.length - ds.length % w) ds]
  exact (windowBits_append (by rw [List.take_append_drop, hlen])).symm

section
variable {w n : Nat}

theorem succ_div_mod_of_full (h : n % w + 1 = w) : (n + 1) / w = n / w + 1 ∧ (n + 1) % w = 0 := by
  refine (Nat.div_mod_unique (by omega)).mpr ⟨?_, by omega⟩
  have := Nat.mod_add_div n w
  rw [Nat.mul_succ]
  omega

theorem succ_div_mod_of_inside (hw : 0 < w) (h : n % w + 1 ≠ w) : (n + 1) / w = n / w ∧ (n + 1) % w = n % w + 1 := by
  have hlt := Nat.mod_lt n hw
  refine (Nat.div_mod_unique hw).mpr ⟨?_, by omega⟩
  have := Nat.mod_add_div n w
  omega

variable {ds : List ℝ}

/-- The difference that fills a window decides its bit with the rest before it. -/
theorem windowBits_concat_of_full (h : ds.length % w + 1 = w) (d : ℝ) :
    windowBits w (ds ++ [d]) = windowBits w ds ++ [decide (0 < (windowRest w ds).sum + d)] := by
  have hdiv : (ds ++ [d]).length / w = ds.length / w + 1 := by
    rw [List.length_append, List.length_singleton, (succ_div_mod_of_full h).1]
  have hlast : windowBit w (ds ++ [d]) (ds.length / w) = decide (0 < (windowRest w ds).sum + d) := by
    have hmod := Nat.mod_add_div' ds.length w
    rw [windowBit, List.drop_append_of_le_length (by omega), List.take_of_length_le, List.sum_append, List.sum_singleton,
      windowRest]
    rw [List.length_append, List.length_drop, List.length_singleton]
    omega
  rw [windowBits, hdiv, List.range_succ, List.map_append, List.map_singleton, hlast, windowBits]
  congr 1
  exact List.map_congr_left fun j hj => windowBit_append (List.mem_range.mp hj) _

theorem windowBits_concat_of_inside (hw : 0 < w) (h : ds.length % w + 1 ≠ w) (d : ℝ) :
    windowBits w (ds ++ [d]) = windowBits w ds :=
  windowBits_append (by rw [List.length_append, List.length_singleton, (succ_div_mod_of_inside hw h).1])

theorem windowRest_concat_of_full (h : ds.length % w + 1 = w) (d : ℝ) : windowRest w (ds ++ [d]) = [] := by
  obtain ⟨-, hmod⟩ := succ_div_mod_of_full h
  rw [windowRest, List.length_append, List.length_singleton, Nat.div_mul_cancel (Nat.dvd_of_mod_eq_zero hmod)]
  exact List.drop_of_length_le (List.length_append ..).le

theorem windowRest_concat_of_inside (hw : 0 < w) (h : ds.length % w + 1 ≠ w) (d : ℝ) :
    windowRest w (ds ++ [d]) = windowRest w ds ++ [d] := by
  rw [windowRest, List.length_append, List.length_singleton, (succ_div_mod_of_inside hw h).1,
    List.drop_append_of_le_length (Nat.div_mul_le_self _ _), windowRest]

end

/-! ### The real slicer computes the array form (R133, R134, R137, R138) -/

/-- The state of an open interval with SPB = w after the differences `ds`, in terms of their windows. -/
structure RealState.Sliced (r : RealState) (w : Nat) (ds : List ℝ) : Prop where
  ivopen : r.rest.ivopen = true
  spb : r.rest.spb.toNat = w
  sc : r.rest.sc = ds.length % w
  nsym : r.rest.nsym.toNat = min (ds.length / w) 0xFFFF
  shr : r.rest.shr = packBits (windowBits w ds)
  acc : r.acc = (windowRest w ds).sum

theorem RealState.Sliced.realAccum {r : RealState} {w : Nat} {ds : List ℝ} (h : r.Sliced w ds) (hw : 0 < w) (d : ℝ) :
    (realAccum d r).Sliced w (ds ++ [d]) := by
  have hlen : (ds ++ [d]).length = ds.length + 1 := List.length_append
  by_cases hfull : ds.length % w + 1 = w
  · obtain ⟨hdiv, hmod⟩ := succ_div_mod_of_full hfull
    rw [realAccum_of_full (by rw [h.sc, h.spb, hfull])]
    exact {
      ivopen := h.ivopen
      spb := h.spb
      sc := by rw [hlen, hmod, State.dump_sc]
      nsym := by
        rw [State.dump_nsym, satSucc_toNat, h.nsym, hlen, hdiv]
        omega
      shr := by rw [State.dump_shr, h.shr, h.acc, windowBits_concat_of_full hfull, packBits_concat]
      acc := by rw [windowRest_concat_of_full hfull, List.sum_nil] }
  · obtain ⟨hdiv, hmod⟩ := succ_div_mod_of_inside hw hfull
    rw [realAccum_of_inside (by rwa [h.sc, h.spb])]
    exact {
      ivopen := h.ivopen
      spb := h.spb
      sc := by rw [hlen, hmod, ← h.sc]
      nsym := by rw [hlen, hdiv, ← h.nsym]
      shr := by rw [windowBits_concat_of_inside hw hfull, ← h.shr]
      acc := by rw [windowRest_concat_of_inside hw hfull, List.sum_append, List.sum_singleton, ← h.acc] }

/-! ### A run of commands -/

/-- The state after the commands have been performed in order; `execAll_eq_next` ties it to `execAll`. -/
def State.afterAll (s : State) (is : List Instr) : State := is.foldl State.after s

theorem State.afterAll_cons (s : State) (i : Instr) (is : List Instr) :
    s.afterAll (i :: is) = (s.after i).afterAll is := rfl

theorem execAll_eq_next (is : List Instr) (s : State) : execAll is s = .next (s.afterAll is) := by
  induction is generalizing s with
  | nil => rfl
  | cons i is ih => rw [execAll_cons, ih, State.afterAll_cons]

/-- The SAMPLE commands of samples in the middle of an interval. -/
def plainSamples (xs : List (Byte × Byte)) : List Instr := xs.map fun x => .sample x.1 x.2 false false

/-- The normalised samples (41_phase_unwrapper.md R101). -/
def points (xs : List (Byte × Byte)) : List IQ := xs.map fun x => normalise x.1 x.2

theorem plainSamples_cons (x : Byte × Byte) (xs : List (Byte × Byte)) :
    plainSamples (x :: xs) = .sample x.1 x.2 false false :: plainSamples xs := rfl

section
variable {s : State} {xs : List (Byte × Byte)}

/-- SOI on the first sample: the interval is the samples without flags in the opened state (R131). -/
theorem State.afterAll_intervalCommands (hspb : s.spb ≠ 0) (hxs : xs ≠ []) :
    s.afterAll (intervalCommands xs) = s.atSoi.afterAll (plainSamples xs) := by
  cases xs with
  | nil => exact absurd rfl hxs
  | cons x xs =>
    rw [plainSamples_cons, afterAll_cons, ← after_sample_soi x.1 x.2 hspb]
    rfl

theorem State.afterAll_markEoi_intervalCommands (hspb : s.spb ≠ 0) (hxs : xs ≠ []) :
    s.afterAll (markEoi (intervalCommands xs)) = s.atSoi.afterAll (markEoi (plainSamples xs)) := by
  match xs, hxs with
  | [x], _ => exact after_sample_soi x.1 x.2 hspb true
  | x :: y :: ys, _ =>
    exact congrArg (fun t : State => t.afterAll (markEoi (plainSamples (y :: ys)))) (after_sample_soi x.1 x.2 hspb false)

/-- EOI on the last sample closes the interval as END after it does (R131, R151). -/
theorem State.afterAll_markEoi_plainSamples (ho : s.ivopen = true) (hxs : xs ≠ []) :
    s.afterAll (markEoi (plainSamples xs)) = (s.afterAll (plainSamples xs)).after .endInterval := by
  induction xs generalizing s with
  | nil => exact absurd rfl hxs
  | cons x xs ih =>
    cases xs with
    | nil => exact after_sample_eoi x.1 x.2 ho
    | cons y ys => exact ih (after_sample_ivopen x.1 x.2 ho) (List.cons_ne_nil y ys)

end

/-! ### The machine's interval in the array form (R138) -/

section
variable {s : State} {w : Nat} {ds : List ℝ}

theorem State.sliced_after_sample (h : s.toReal.Sliced w ds) (hw : 0 < w) (hprev : s.haveprev = false → s.sc = 0)
    (ib qb : Byte) : (s.after (.sample ib qb false false)).toReal.Sliced w
      (ds ++ [realDiff s.prev (normalise ib qb) s.haveprev]) := by
  have hnote : ((s.notePrev (normalise ib qb)).withSum s.accReal).Sliced w ds := { h with }
  rw [toReal_after_sample (s := s) h.ivopen hprev]
  exact hnote.realAccum hw _

theorem State.sliced_afterAll (h : s.toReal.Sliced w ds) (hw : 0 < w) (hprev : s.haveprev = false → s.sc = 0)
    (xs : List (Byte × Byte)) : (s.afterAll (plainSamples xs)).toReal.Sliced w
      (ds ++ captureDiffs s.prev s.haveprev (points xs)) := by
  induction xs generalizing s ds with
  | nil => exact (List.append_nil ds).symm ▸ h
  | cons x xs ih =>
    have hkeep := s.after_sample_keeps x.1 x.2 false false
    have hprev' : (s.after (.sample x.1 x.2 false false)).prev = normalise x.1 x.2 := hkeep.prev
    have hhave : (s.after (.sample x.1 x.2 false false)).haveprev = true := hkeep.haveprev
    have hrest := ih (sliced_after_sample h hw hprev x.1 x.2) fun hf => absurd (hf.symm.trans hhave) Bool.false_ne_true
    rw [hprev', hhave, List.append_assoc] at hrest
    exact hrest

end

/-- An interval just opened has no differences yet. -/
theorem State.sliced_atSoi (s : State) : s.atSoi.toReal.Sliced s.spb.toNat [] where
  ivopen := rfl
  spb := congrArg BitVec.toNat (abortUnclosed_spb s)
  sc := (Nat.zero_mod _).symm
  nsym := by simp [toReal, atSoi]
  shr := by simp [toReal, atSoi, windowBits, packBits]
  acc := by simp [windowRest, toReal_of_sc_eq_zero (show s.atSoi.sc = 0 from rfl), withSum]

/-- The state after an interval that is not closed yet. -/
theorem State.sliced_interval {s : State} {xs : List (Byte × Byte)} (hspb : s.spb ≠ 0) (hxs : xs ≠ []) :
    (s.afterAll (intervalCommands xs)).toReal.Sliced s.spb.toNat (captureDiffs s.prev s.haveprev (points xs)) := by
  have hw : 0 < s.spb.toNat := Nat.pos_of_ne_zero fun h0 => hspb (BitVec.eq_of_toNat_eq h0)
  have hsliced := sliced_afterAll s.sliced_atSoi hw (fun _ => rfl) xs
  rwa [List.nil_append, s.atSoi_keeps.prev, s.atSoi_keeps.haveprev, ← afterAll_intervalCommands hspb hxs] at hsliced

/-- Settles O40. -/
theorem intervalBitsAreTheSignsOfWindowSums : Obligations.IntervalBitsAreTheSignsOfWindowSums :=
  fun s xs hspb hxs => ⟨_, execAll_eq_next (intervalCommands xs) s, (State.sliced_interval hspb hxs).shr⟩

/-! ### The number of symbols and the remainder (R137) -/

theorem length_captureDiffs (p : IQ) (h : Bool) (vs : List IQ) : (captureDiffs p h vs).length = vs.length := by
  induction vs generalizing p h with
  | nil => rfl
  | cons v vs ih => rw [captureDiffs, List.length_cons, ih, List.length_cons]

theorem captureDiffs_take (n : Nat) (p : IQ) (h : Bool) (vs : List IQ) :
    captureDiffs p h (vs.take n) = (captureDiffs p h vs).take n := by
  induction vs generalizing n p h with
  | nil => rw [List.take_nil, captureDiffs, List.take_nil]
  | cons v vs ih =>
    cases n with
    | zero => rfl
    | succ n => rw [List.take_succ_cons, captureDiffs, captureDiffs, List.take_succ_cons, ih]

theorem dedupInsert_nsym_shr (cfg : Config.Params) (v : Frame) (s : State) :
    (dedupInsert cfg v s).nsym = s.nsym ∧ (dedupInsert cfg v s).shr = s.shr := by
  obtain ⟨-, hres⟩ | ⟨-, -, hres⟩ | ⟨-, -, hres⟩ := dedupInsert_cases cfg v s <;> simp [hres]

/-- CLOSE keeps NSYM and SHR and leaves no interval (R135). -/
theorem closeInterval_keeps (cfg : Config.Params) (s : State) :
    (closeInterval cfg s).nsym = s.nsym ∧ (closeInterval cfg s).shr = s.shr ∧
      (closeInterval cfg s).ivopen = false ∧ (closeInterval cfg s).sc = 0 := by
  obtain ⟨-, hres⟩ | ⟨-, hres⟩ := closeInterval_cases cfg s
  · obtain ⟨hnsym, hshr⟩ := dedupInsert_nsym_shr cfg s.shr s
    rw [hres]
    exact ⟨hnsym, hshr, rfl, rfl⟩
  · rw [hres]
    exact ⟨rfl, rfl, rfl, rfl⟩

/-- Settles O41: the counts are those of the array form, and CLOSE keeps them. -/
theorem symbolCountOfAnInterval : Obligations.SymbolCountOfAnInterval := by
  intro s xs hspb hxs
  have h := State.sliced_interval hspb hxs
  have hlen : (captureDiffs s.prev s.haveprev (points xs)).length = xs.length :=
    (length_captureDiffs _ _ _).trans (List.length_map _)
  have hremainder := windowBits_take s.spb.toNat (captureDiffs s.prev s.haveprev (points xs))
  rw [hlen, ← captureDiffs_take, points, ← List.map_take] at hremainder
  have heoi : s.afterAll (markEoi (intervalCommands xs)) = (s.afterAll (intervalCommands xs)).after .endInterval := by
    rw [State.afterAll_markEoi_intervalCommands hspb hxs, State.afterAll_intervalCommands hspb hxs,
      State.afterAll_markEoi_plainSamples rfl hxs]
  have hend := State.after_end_of_open (s := s.afterAll (intervalCommands xs)) h.ivopen
  obtain ⟨hnsym, hshr, hclosed, hsc⟩ := closeInterval_keeps Config.params (s.afterAll (intervalCommands xs))
  rw [← hend] at hnsym hshr hclosed hsc
  refine ⟨_, _, execAll_eq_next _ s, exec_eq_next _ _, heoi ▸ execAll_eq_next _ s, h.ivopen, hlen ▸ h.sc,
    hlen ▸ h.nsym, ?_, hnsym, hshr, hclosed, hsc⟩
  rw [hremainder]
  exact h.shr

/-- Settles O42: the array form names only the samples, the sample before them and SPB. -/
theorem bitStringDependsOnSamplesAndSpbOnly : Obligations.BitStringDependsOnSamplesAndSpbOnly := by
  intro s s' t t' xs hspb hxs hspbs hprev hhave hrun hrun'
  rw [execAll_eq_next] at hrun hrun'
  obtain rfl := Host.Outcome.next.inj hrun
  obtain rfl := Host.Outcome.next.inj hrun'
  have h := State.sliced_interval hspb hxs
  have h' := State.sliced_interval (hspbs ▸ hspb) hxs
  rw [← hspbs, ← hprev, ← hhave] at h'
  exact ⟨h.shr.trans h'.shr.symm, BitVec.eq_of_toNat_eq (h.nsym.trans h'.nsym.symm), h.sc.trans h'.sc.symm,
    h.acc.trans h'.acc.symm⟩

end Sys2Proof.Machine
end

section
/-! SUPPORT. PROOFS of the frame parser family: SELECT and LDFRM, the parsed registers of a frame built from field values, what the
preamble cannot reach, and the device-id string (43_frame_parser.md R171 to R182). -/

namespace Sys2Proof.Machine

/-! ### SELECT (R180) -/

theorem State.after_select_of_lt {s : State} {k : Half} (h : k.toNat < s.nstr.toNat) :
    s.after (.select k) = s.selectEntry k := if_pos h

theorem State.after_select_of_le {s : State} {k : Half} (h : s.nstr.toNat ≤ k.toNat) :
    s.after (.select k) = s.record .serr := if_neg (Nat.not_lt.mpr h)

/-- Settles O16. -/
theorem selectLoadsAValidEntry : Obligations.SelectLoadsAValidEntry := by
  intro s k
  rw [exec_eq_next]
  exact ⟨fun h => congrArg _ (State.after_select_of_lt h), fun h => congrArg _ (State.after_select_of_le h)⟩

/-! ### LDFRM (R181) -/

/-- Settles O17: the chunk that LDFRM replaces, bit by bit. -/
theorem ldfrmWritesOneChunk : Obligations.LdfrmWritesOneChunk := fun s c d =>
  ⟨putChunk c d s.frm, exec_eq_next (.ldfrm c d) s, fun _ => getLsbD_putChunk c d s.frm⟩

/-! ### The fields of a frame built from field values (R171) -/

section
variable (pre : BitVec 24) (sync : BitVec 16) (devid : BitVec 20) (cmd : BitVec 3) (bat : BitVec 1)

theorem frameBatraw_append : frameBatraw (pre ++ sync ++ devid ++ cmd ++ bat) = bat :=
  BitVec.extractLsb'_append_eq_right

theorem frameCmdraw_append : frameCmdraw (pre ++ sync ++ devid ++ cmd ++ bat) = cmd :=
  (BitVec.extractLsb'_append_eq_of_le (by decide)).trans BitVec.extractLsb'_append_eq_right

theorem frameDevid_append : frameDevid (pre ++ sync ++ devid ++ cmd ++ bat) = devid := by
  rw [frameDevid, BitVec.extractLsb'_append_eq_of_le (by decide), BitVec.extractLsb'_append_eq_of_le (by decide)]
  exact BitVec.extractLsb'_append_eq_right

theorem frameSync_append : frameSync (pre ++ sync ++ devid ++ cmd ++ bat) = sync := by
  rw [frameSync, BitVec.extractLsb'_append_eq_of_le (by decide), BitVec.extractLsb'_append_eq_of_le (by decide),
    BitVec.extractLsb'_append_eq_of_le (by decide)]
  exact BitVec.extractLsb'_append_eq_right

end

/-! ### The fields read back from the parsed registers (R49, R50, R182) -/

theorem devidReg_devid (f : Frame) : (devidReg f).extractLsb' 0 20 = frameDevid f :=
  extractLsb'_place_same _ (by decide)

theorem cmdbatReg_batrawField (cfg : Config.Params) (f : Frame) :
    (cmdbatReg cfg f).extractLsb' 3 1 = frameBatraw f := by
  simp [cmdbatReg, BitVec.extractLsb'_or, extractLsb'_place_same, extractLsb'_place_disjoint]

/-- Settles O43: the four loads leave the frame in FRM, each parsed register reads its field of FRM, and the fields of the frame
are the values it was built from. -/
theorem parserRoundTrip : Obligations.ParserRoundTrip := by
  intro s pre sync devid cmd bat
  exact ⟨_, ldfrm64LoadsTheWholeFrame s _,
    (syncReg_sync _ _).trans (frameSync_append pre sync devid cmd bat),
    (devidReg_devid _).trans (frameDevid_append pre sync devid cmd bat),
    (cmdbatReg_cmdraw _ _).trans (frameCmdraw_append pre sync devid cmd bat),
    (cmdbatReg_batrawField _ _).trans (frameBatraw_append pre sync devid cmd bat)⟩

/-! ### What the preamble cannot reach (R174)

Everything below FRM[63:40] is a field of FRM[39:0]. -/

/-- FRM but the preamble: the bits FRM[39:0]. -/
def frameBody (f : Frame) : BitVec 40 := f.extractLsb' 0 40

theorem extractLsb'_frameBody (f : Frame) {start len : Nat} (h : start + len ≤ 40) :
    (frameBody f).extractLsb' start len = f.extractLsb' start len :=
  BitVec.extractLsb'_extractLsb'_of_le h

/-- Frames with the same bits 39 to 0 agree in every field that lies below bit 40. -/
theorem extractLsb'_eq_of_frameBody_eq {f g : Frame} (h : frameBody f = frameBody g) {start len : Nat}
    (hle : start + len ≤ 40) : f.extractLsb' start len = g.extractLsb' start len := by
  rw [← extractLsb'_frameBody f hle, h, extractLsb'_frameBody g hle]

section
variable {f g : Frame} (h : frameBody f = frameBody g)
include h

theorem frameSync_eq_of_frameBody_eq : frameSync f = frameSync g := extractLsb'_eq_of_frameBody_eq h (by decide)

theorem frameDevid_eq_of_frameBody_eq : frameDevid f = frameDevid g := extractLsb'_eq_of_frameBody_eq h (by decide)

theorem frameCmdraw_eq_of_frameBody_eq : frameCmdraw f = frameCmdraw g := extractLsb'_eq_of_frameBody_eq h (by decide)

theorem frameBatraw_eq_of_frameBody_eq : frameBatraw f = frameBatraw g := extractLsb'_eq_of_frameBody_eq h (by decide)

theorem parseFrame_eq_of_frameBody_eq (cfg : Config.Params) : parseFrame cfg f = parseFrame cfg g := by
  rw [parseFrame, parseFrame, deviceIdString, deviceIdString, frameSync_eq_of_frameBody_eq h,
    frameDevid_eq_of_frameBody_eq h, frameCmdraw_eq_of_frameBody_eq h, frameBatraw_eq_of_frameBody_eq h]

theorem syncReg_eq_of_frameBody_eq (cfg : Config.Params) : syncReg cfg f = syncReg cfg g := by
  rw [syncReg, syncReg, frameSyncOk, frameSyncOk, frameSync_eq_of_frameBody_eq h]

theorem devidReg_eq_of_frameBody_eq : devidReg f = devidReg g := by
  rw [devidReg, devidReg, frameDevid_eq_of_frameBody_eq h]

theorem cmdbatReg_eq_of_frameBody_eq (cfg : Config.Params) : cmdbatReg cfg f = cmdbatReg cfg g := by
  rw [cmdbatReg, cmdbatReg, frameCmdraw_eq_of_frameBody_eq h, frameBatraw_eq_of_frameBody_eq h]

end

/-- The registers that read no bit of FRM: all but FRM_HI, FRM_LO, SYNC, DEVID and CMDBAT. -/
theorem readback_withFrm_of_notMem_entryRegisters (cfg : Config.Params) (s : State) (f g : Frame) {reg : BitVec 4}
    (h : reg ∉ entryRegisters) : readback cfg reg { s with frm := f } = readback cfg reg { s with frm := g } := by
  by_cases hunused : 12 ≤ reg.toNat
  · rw [readback_unused cfg _ hunused, readback_unused cfg _ hunused]
  · simp only [entryRegisters, List.mem_cons, List.not_mem_nil, or_false, not_or] at h
    obtain rfl | rfl | rfl | rfl | rfl | rfl | rfl :
        reg = 0x0 ∨ reg = 0x1 ∨ reg = 0x2 ∨ reg = 0x3 ∨ reg = 0x4 ∨ reg = 0xA ∨ reg = 0xB := by bv_omega
    all_goals rfl

/-- Settles O44: of the five registers that read FRM, only FRM_HI reads above bit 39. -/
theorem preambleIsDiscarded : Obligations.PreambleIsDiscarded := by
  intro s f g hbody
  refine ⟨fun reg hhi => ?_, parseFrame_eq_of_frameBody_eq hbody _⟩
  by_cases hreg : reg ∈ entryRegisters
  · simp only [entryRegisters, List.mem_cons, List.not_mem_nil, or_false, hhi, false_or] at hreg
    obtain rfl | rfl | rfl | rfl := hreg
    · exact extractLsb'_eq_of_frameBody_eq hbody (by decide)
    · exact syncReg_eq_of_frameBody_eq hbody _
    · exact devidReg_eq_of_frameBody_eq hbody
    · exact cmdbatReg_eq_of_frameBody_eq hbody _
  · exact readback_withFrm_of_notMem_entryRegisters _ s f g hreg

/-! ### The device-id string (R175, R176) -/

/-- The characters HEXSTR writes: decimal digits, and letters in the case of HEX_CASE. -/
def isHexCharOf (hc : Config.HexCase) (c : Char) : Prop :=
  (48 ≤ c.toNat ∧ c.toNat ≤ 57) ∨ (hc = .lower ∧ 97 ≤ c.toNat ∧ c.toNat ≤ 102) ∨
    (hc = .upper ∧ 65 ≤ c.toNat ∧ c.toNat ≤ 70)

theorem toNat_charOfNat {n : Nat} (h : n < 0xD800) : (Char.ofNat n).toNat = n := by
  rw [Char.toNat_ofNat, if_pos (Or.inl h)]

/-- The character code of a hex digit. -/
theorem toNat_hexDigit_cases (hc : Config.HexCase) {d : Nat} (hd : d < 16) :
    (d < 10 ∧ (hexDigit hc d).toNat = 48 + d) ∨
    (10 ≤ d ∧ hc = .lower ∧ (hexDigit hc d).toNat = 97 + (d - 10)) ∨
    (10 ≤ d ∧ hc = .upper ∧ (hexDigit hc d).toNat = 65 + (d - 10)) := by
  by_cases h : d < 10
  · have hchar : hexDigit hc d = Char.ofNat (48 + d) := if_pos h
    exact .inl ⟨h, by rw [hchar, toNat_charOfNat (by omega)]⟩
  · cases hc with
    | lower =>
      have hchar : hexDigit .lower d = Char.ofNat (97 + (d - 10)) := if_neg h
      exact .inr (.inl ⟨Nat.le_of_not_lt h, rfl, by rw [hchar, toNat_charOfNat (by omega)]⟩)
    | upper =>
      have hchar : hexDigit .upper d = Char.ofNat (65 + (d - 10)) := if_neg h
      exact .inr (.inr ⟨Nat.le_of_not_lt h, rfl, by rw [hchar, toNat_charOfNat (by omega)]⟩)

theorem hexDigit_isHexCharOf (hc : Config.HexCase) {d : Nat} (hd : d < 16) : isHexCharOf hc (hexDigit hc d) := by
  obtain ⟨hlt, hn⟩ | ⟨hle, hcase, hn⟩ | ⟨hle, hcase, hn⟩ := toNat_hexDigit_cases hc hd
  · exact .inl (by omega)
  · exact .inr (.inl ⟨hcase, by omega⟩)
  · exact .inr (.inr ⟨hcase, by omega⟩)

theorem digitValue_of_decimal {c : Char} (h : 48 ≤ c.toNat ∧ c.toNat ≤ 57) :
    digitValue 16 c = some (c.toNat - 48) := by
  simp only [digitValue, if_pos h]
  exact if_pos (by omega)

theorem digitValue_of_lower {c : Char} (h : 97 ≤ c.toNat ∧ c.toNat ≤ 102) :
    digitValue 16 c = some (c.toNat - 87) := by
  have hdecimal : ¬ (48 ≤ c.toNat ∧ c.toNat ≤ 57) := by omega
  simp only [digitValue, if_neg hdecimal, if_pos h]
  exact if_pos (by omega)

theorem digitValue_of_upper {c : Char} (h : 65 ≤ c.toNat ∧ c.toNat ≤ 70) :
    digitValue 16 c = some (c.toNat - 55) := by
  have hdecimal : ¬ (48 ≤ c.toNat ∧ c.toNat ≤ 57) := by omega
  have hlower : ¬ (97 ≤ c.toNat ∧ c.toNat ≤ 102) := by omega
  simp only [digitValue, if_neg hdecimal, if_neg hlower, if_pos h]
  exact if_pos (by omega)

/-- A written hex digit is read as its value. -/
theorem digitValue_hexDigit (hc : Config.HexCase) {d : Nat} (hd : d < 16) : digitValue 16 (hexDigit hc d) = some d := by
  obtain ⟨hlt, hn⟩ | ⟨hle, -, hn⟩ | ⟨hle, -, hn⟩ := toNat_hexDigit_cases hc hd
  · exact (digitValue_of_decimal (by omega)).trans (congrArg some (by omega))
  · exact (digitValue_of_lower (by omega)).trans (congrArg some (by omega))
  · exact (digitValue_of_upper (by omega)).trans (congrArg some (by omega))

theorem length_hexDigits (hc : Config.HexCase) (k x : Nat) : (hexDigits hc k x).length = k := by
  induction k generalizing x with
  | zero => rfl
  | succ k ih => rw [hexDigits, List.length_append, ih, List.length_singleton]

theorem hexDigits_isHexCharOf (hc : Config.HexCase) (k x : Nat) : ∀ c ∈ hexDigits hc k x, isHexCharOf hc c := by
  induction k generalizing x with
  | zero => exact List.forall_mem_nil _
  | succ k ih =>
    rw [hexDigits, List.forall_mem_append, List.forall_mem_singleton]
    exact ⟨ih _, hexDigit_isHexCharOf hc (Nat.mod_lt x (by decide))⟩

theorem digitsValue_append (base acc : Nat) (ds es : List Char) :
    digitsValue base acc (ds ++ es) = (digitsValue base acc ds).bind (digitsValue base · es) := by
  induction ds generalizing acc with
  | nil => rfl
  | cons c ds ih => simp only [List.cons_append, digitsValue, ih, Option.bind_assoc]

/-- The k hex digits of a number below 16^k are read as that number. -/
theorem digitsValue_hexDigits (hc : Config.HexCase) {k x : Nat} (hx : x < 16 ^ k) :
    digitsValue 16 0 (hexDigits hc k x) = some x := by
  induction k generalizing x with
  | zero => rw [Nat.lt_one_iff.mp hx, hexDigits, digitsValue]
  | succ k ih =>
    have hquot : x / 16 < 16 ^ k := Nat.div_lt_of_lt_mul (by rwa [Nat.mul_comm, ← Nat.pow_succ])
    have hdigit : digitValue 16 (hexDigit hc (x % 16)) = some (x % 16) := digitValue_hexDigit hc (Nat.mod_lt x (by decide))
    rw [hexDigits, digitsValue_append, ih hquot, Option.bind_some, digitsValue, hdigit, Option.bind_some, digitsValue,
      Nat.div_add_mod']

/-- Settles O50: HEXSTR writes five digits for the 20 bits of DEVID. -/
theorem deviceIdStringIsFiveHexDigits : Obligations.DeviceIdStringIsFiveHexDigits := fun cfg f =>
  ⟨hexDigits cfg.hexCase 5 (frameDevid f).toNat, rfl, length_hexDigits _ _ _, digitsValue_hexDigits _ (frameDevid f).isLt,
    hexDigits_isHexCharOf _ _ _⟩

end Sys2Proof.Machine
end

section
/-! SUPPORT. PROOFS of the control family: NOP, CAPTURE, CLRSTAT, and an ILLEGAL word at the command port
(44_control.md R200 to R203). -/

namespace Sys2Proof.Machine

/-! ### NOP, CAPTURE and CLRSTAT (R200 to R202)

Each is one update of the state; `exec_eq_next` names it, and its fields are those the statement writes out. -/

/-- Settles O12. -/
theorem nopChangesNothing : Obligations.NopChangesNothing := exec_eq_next .nop

/-- Settles O14: CAPTURE is `State.newCapture`. -/
theorem captureClearsTheFileState : Obligations.CaptureClearsTheFileState := exec_eq_next .capture

/-- Settles O15: CLRSTAT is `State.clearErrors`. -/
theorem clrstatClearsTheStickyBits : Obligations.ClrstatClearsTheStickyBits := exec_eq_next .clrstat

/-! ### An ILLEGAL word (R203) -/

theorem performWord_of_decode_error {w : Word} {why : Illegal} (h : decode w = .error why) (s : State) :
    performWord w s = .next (s.record .cerr) := by
  rw [performWord, h, execIllegal]

/-- An ILLEGAL word is taken from the port and recorded as CERR, whatever made it ILLEGAL. -/
theorem step_of_illegalWord {s : State} {w : Word} {rest : List HostAction} {why : Illegal}
    (hport : s.port = .write w :: rest) (hdec : decode w = .error why) :
    step s = .next ((s.withPort rest).record .cerr) :=
  (step_of_port_cons hport).trans (performWord_of_decode_error hdec _)

/-- Settles O8. -/
theorem illegalWordSetsCerrOnly : Obligations.IllegalWordSetsCerrOnly :=
  fun _ _ _ _ => step_of_illegalWord

end Sys2Proof.Machine
end

section
/-! SUPPORT. PROOFS of the exceptions family: the one sticky bit a command word raises, its causes, and the completion of every step
(60_exceptions.md R220 to R227, R235). -/

namespace Sys2Proof.Machine

/-! ### The sticky bits under the updates of the state (R225)

Only RECORD, CLRSTAT and CAPTURE write a sticky bit. -/

namespace State

variable (s : State) (e : ErrorBit)

@[simp] theorem openInterval_errorBit : s.openInterval.errorBit e = s.errorBit e := by cases e <;> rfl
@[simp] theorem abortInterval_errorBit : s.abortInterval.errorBit e = s.errorBit e := by cases e <;> rfl
@[simp] theorem addString_errorBit (v : Frame) : (s.addString v).errorBit e = s.errorBit e := by cases e <;> rfl
@[simp] theorem dump_errorBit (b : Bool) : (s.dump b).errorBit e = s.errorBit e := by cases e <;> rfl
@[simp] theorem holdSum_errorBit (a : PhaseAcc) : (s.holdSum a).errorBit e = s.errorBit e := by cases e <;> rfl
@[simp] theorem notePrev_errorBit (v : IQ) : (s.notePrev v).errorBit e = s.errorBit e := by cases e <;> rfl
@[simp] theorem setSpb_errorBit (w : Half) : (s.setSpb w).errorBit e = s.errorBit e := by cases e <;> rfl
@[simp] theorem selectEntry_errorBit (k : Half) : (s.selectEntry k).errorBit e = s.errorBit e := by cases e <;> rfl
@[simp] theorem loadChunk_errorBit (c : BitVec 2) (d : Half) : (s.loadChunk c d).errorBit e = s.errorBit e := by
  cases e <;> rfl
@[simp] theorem clearErrors_errorBit : s.clearErrors.errorBit e = false := by cases e <;> rfl

theorem newCapture_errorBit : s.newCapture.errorBit e = true ↔ s.errorBit e = true ∧ e ≠ .ovf := by
  cases e <;> simp [errorBit]

theorem record_errorBit (e' : ErrorBit) : (s.record e').errorBit e = true ↔ s.errorBit e = true ∨ e' = e := by
  cases e' <;> cases e <;> simp [errorBit]

end State

/-! ### The sticky bits under the shared operations -/

/-- SAMPLE flags that break framing (60_exceptions.md R222 a, b and c). -/
abbrev State.BreaksFraming (s : State) (soi eoi : Bool) : Prop :=
  (soi = true ∧ s.ivopen = true) ∨ (soi = true ∧ s.spb = 0) ∨ (soi = false ∧ eoi = true ∧ s.ivopen = false)

theorem State.breaksFraming_soi (s : State) (eoi : Bool) : s.BreaksFraming true eoi ↔ s.ivopen = true ∨ s.spb = 0 := by
  simp [BreaksFraming]

theorem State.breaksFraming_noSoi (s : State) (eoi : Bool) :
    s.BreaksFraming false eoi ↔ eoi = true ∧ s.ivopen = false := by
  simp [BreaksFraming]

/-- CLOSE in this state drops the string: 64 symbols, not in the set, and a full table (60_exceptions.md R223). -/
abbrev State.DropsString (cfg : Config.Params) (s : State) : Prop :=
  s.nsym.toNat = 64 ∧ s.hasString s.shr = false ∧ cfg.depth ≤ s.nstr.toNat

section
variable (cfg : Config.Params) (s : State) (d : PhaseStep) (e : ErrorBit)

@[simp] theorem accum_errorBit : (accum d s).errorBit e = s.errorBit e := by
  obtain ⟨-, hres⟩ | ⟨-, hres⟩ := accum_cases d s <;> simp [hres]

theorem abortUnclosed_errorBit :
    (abortUnclosed s).errorBit e = true ↔ s.errorBit e = true ∨ (s.ivopen = true ∧ .perr = e) := by
  obtain ⟨ho, hres⟩ | ⟨ho, hres⟩ := abortUnclosed_cases s <;> simp [hres, ho, State.record_errorBit]

theorem dedupInsert_errorBit (v : Frame) : (dedupInsert cfg v s).errorBit e = true ↔
    s.errorBit e = true ∨ ((s.hasString v = false ∧ cfg.depth ≤ s.nstr.toNat) ∧ .ovf = e) := by
  obtain ⟨hold, hres⟩ | ⟨-, hroom, hres⟩ | ⟨hnew, hfull, hres⟩ := dedupInsert_cases cfg v s
  · simp [hres, hold]
  · simp [hres, hroom.not_ge]
  · simp [hres, hnew, hfull, State.record_errorBit]

theorem closeInterval_errorBit : (closeInterval cfg s).errorBit e = true ↔
    s.errorBit e = true ∨ (s.DropsString cfg ∧ .ovf = e) := by
  obtain ⟨hlen, hres⟩ | ⟨hlen, hres⟩ := closeInterval_cases cfg s
  · simp [hres, State.DropsString, hlen, dedupInsert_errorBit]
  · simp [hres, State.DropsString, hlen]

theorem accumClose_errorBit (eoi : Bool) : (accumClose cfg eoi d s).errorBit e = true ↔
    s.errorBit e = true ∨ ((eoi = true ∧ (accum d s).DropsString cfg) ∧ .ovf = e) := by
  cases eoi with
  | false => simp [accumClose]
  | true => simp [accumClose, closeInterval_errorBit]

/-- One sample after an interval opens, it has at most one symbol, so its close inserts nothing. -/
theorem not_dropsString_accum_openInterval : ¬ (accum d s.openInterval).DropsString cfg := by
  rintro ⟨hlen, -⟩
  obtain ⟨-, hres⟩ | ⟨-, hres⟩ := accum_cases d s.openInterval
  · simp [hres] at hlen
  · simp [hres, satSucc_toNat] at hlen

/-- The sticky bit that SLICE raises: PERR for flags that break framing, else OVF when EOI closes an interval whose string is
dropped (42_bit_slicer.md R131, R145). -/
def sliceError (soi eoi : Bool) : Option ErrorBit :=
  if s.BreaksFraming soi eoi then some .perr
  else if soi = false ∧ eoi = true ∧ (accum d s).DropsString cfg then some .ovf
  else none

theorem slice_errorBit (soi eoi : Bool) : (slice cfg soi eoi d s).errorBit e = true ↔
    s.errorBit e = true ∨ sliceError cfg s d soi eoi = some e := by
  obtain ⟨rfl, hspb, hres⟩ | ⟨rfl, hspb, hres⟩ | ⟨rfl, rfl, ho, hres⟩ | ⟨rfl, ho, hres⟩ | ⟨rfl, rfl, ho, hres⟩ :=
    slice_cases cfg soi eoi d s
  · have hframing : s.BreaksFraming true eoi := (s.breaksFraming_soi eoi).mpr (.inr hspb)
    simp only [hres, State.record_errorBit, abortUnclosed_errorBit, sliceError, if_pos hframing, Option.some_inj]
    tauto
  · have hframing : s.BreaksFraming true eoi ↔ s.ivopen = true :=
      (s.breaksFraming_soi eoi).trans (or_iff_left hspb)
    simp [hres, sliceError, hframing, accumClose_errorBit, abortUnclosed_errorBit, not_dropsString_accum_openInterval]
  · simp [hres, sliceError, s.breaksFraming_noSoi, ho, State.record_errorBit]
  · simp [hres, sliceError, s.breaksFraming_noSoi, ho, accumClose_errorBit]
  · simp [hres, sliceError, s.breaksFraming_noSoi]

end

/-! ### The error of a command word

A word raises one sticky bit or none, and CLRSTAT and CAPTURE are the only commands that clear one; `State.afterWord_errorBit`
ties both to the state after the word, and the causes of each bit are read off `State.raised`. -/

/-- The sticky bit that a command raises, if it raises one (60_exceptions.md R221 to R224). -/
def State.raised (s : State) : Instr → Option ErrorBit
  | .sample ib qb soi eoi =>
    sliceError Config.params (s.notePrev (normalise ib qb)) (diff s.prev (normalise ib qb) s.haveprev) soi eoi
  | .endInterval => if s.ivopen = true ∧ s.DropsString Config.params then some .ovf else none
  | .setspb w => if w = 0 ∨ s.ivopen = true then some .cerr else none
  | .select k => if s.nstr.toNat ≤ k.toNat then some .serr else none
  | .nop | .capture | .ldfrm _ _ | .clrstat => none

/-- The command clears this sticky bit (44_control.md R201, R202). -/
def Clears (i : Instr) (e : ErrorBit) : Prop := i = .clrstat ∨ (i = .capture ∧ e = .ovf)

/-- What a command does to each sticky bit. -/
theorem State.after_errorBit (s : State) (i : Instr) (e : ErrorBit) :
    (s.after i).errorBit e = true ↔ (s.errorBit e = true ∧ ¬ Clears i e) ∨ s.raised i = some e := by
  cases i with
  | sample ib qb soi eoi =>
    have hslice := slice_errorBit Config.params (s.notePrev (normalise ib qb))
      (diff s.prev (normalise ib qb) s.haveprev) e soi eoi
    simpa [after, raised, Clears] using hslice
  | endInterval =>
    cases ho : s.ivopen with
    | false => simp [after_end_of_closed ho, raised, ho, Clears]
    | true => simp [after_end_of_open ho, raised, ho, Clears, closeInterval_errorBit]
  | setspb w =>
    by_cases h : w = 0 ∨ s.ivopen = true
    · simp only [after, raised, if_pos h, record_errorBit]
      simp [Clears]
    · simp only [after, raised, if_neg h]
      simp [Clears]
  | select k =>
    by_cases h : s.nstr.toNat ≤ k.toNat
    · simp [after_select_of_le h, raised, h, Clears, record_errorBit]
    · simp [after_select_of_lt (not_le.mp h), raised, h, Clears]
  | nop | ldfrm | clrstat => simp [after, raised, Clears]
  | capture => simp [after, raised, Clears, newCapture_errorBit]

/-! ### A command word (R221 a, R227) -/

/-- The state after a command word has been performed; `performWord_eq_next` ties it to `performWord`. -/
def State.afterWord (s : State) (w : Word) : State :=
  match decode w with
  | .ok i => s.after i
  | .error _ => s.record .cerr

/-- The sticky bit that a command word raises, if it raises one. -/
def State.raisedByWord (s : State) (w : Word) : Option ErrorBit :=
  match decode w with
  | .ok i => s.raised i
  | .error _ => some .cerr

section
variable (s : State) {w : Word} {e : ErrorBit}

theorem State.afterWord_of_ok {i : Instr} (h : decode w = .ok i) : s.afterWord w = s.after i := by
  rw [afterWord, h]

theorem State.afterWord_of_error {why : Illegal} (h : decode w = .error why) : s.afterWord w = s.record .cerr := by
  rw [afterWord, h]

theorem State.raisedByWord_of_ok {i : Instr} (h : decode w = .ok i) : s.raisedByWord w = s.raised i := by
  rw [raisedByWord, h]

theorem State.raisedByWord_of_error {why : Illegal} (h : decode w = .error why) : s.raisedByWord w = some .cerr := by
  rw [raisedByWord, h]

theorem performWord_eq_next (w : Word) (s : State) : performWord w s = .next (s.afterWord w) := by
  cases h : decode w with
  | ok i => rw [performWord_of_decode_ok h, exec_eq_next, s.afterWord_of_ok h]
  | error why => rw [performWord_of_decode_error h, s.afterWord_of_error h]

/-- What a command word does to each sticky bit. -/
theorem State.afterWord_errorBit : (s.afterWord w).errorBit e = true ↔
    (s.errorBit e = true ∧ ¬ ∃ i, decode w = .ok i ∧ Clears i e) ∨ s.raisedByWord w = some e := by
  cases h : decode w with
  | ok i => simp [s.afterWord_of_ok h, s.raisedByWord_of_ok h, after_errorBit]
  | error why => simp [s.afterWord_of_error h, s.raisedByWord_of_error h, record_errorBit]

/-- A sticky bit that was clear is set by the word that raises it, and by no other. -/
theorem State.afterWord_errorBit_of_clear (hclear : s.errorBit e = false) :
    (s.afterWord w).errorBit e = true ↔ s.raisedByWord w = some e := by
  simp [afterWord_errorBit, hclear]

theorem State.raisedByWord_eq_some_iff : s.raisedByWord w = some e ↔
    ((∃ why, decode w = .error why) ∧ e = .cerr) ∨ ∃ i, decode w = .ok i ∧ s.raised i = some e := by
  cases h : decode w with
  | ok i => simp [s.raisedByWord_of_ok h]
  | error why => simp [s.raisedByWord_of_error h, eq_comm]

/-- An error other than CERR comes from a decoded command. -/
theorem State.raisedByWord_eq_some_iff_of_ne (he : e ≠ .cerr) :
    s.raisedByWord w = some e ↔ ∃ i, decode w = .ok i ∧ s.raised i = some e := by
  simp [raisedByWord_eq_some_iff, he]

end

/-! ### The commands that raise each bit (R221 to R224) -/

section
variable (cfg : Config.Params) (s : State) (d : PhaseStep) (soi eoi : Bool)

theorem sliceError_eq_perr_iff : sliceError cfg s d soi eoi = some .perr ↔ s.BreaksFraming soi eoi := by
  unfold sliceError
  split_ifs with hframing <;> simp [hframing]

theorem sliceError_eq_ovf_iff : sliceError cfg s d soi eoi = some .ovf ↔
    soi = false ∧ eoi = true ∧ s.ivopen = true ∧ (accum d s).DropsString cfg := by
  unfold sliceError
  by_cases hclose : soi = false ∧ eoi = true
  · obtain ⟨rfl, rfl⟩ := hclose
    by_cases ho : s.ivopen = true <;> simp [s.breaksFraming_noSoi, ho]
  · have hdrops : ¬ (soi = false ∧ eoi = true ∧ (accum d s).DropsString cfg) :=
      fun ⟨hsoi, heoi, _⟩ => hclose ⟨hsoi, heoi⟩
    rw [if_neg hdrops]
    exact iff_of_false (by split_ifs <;> simp) fun ⟨hsoi, heoi, _⟩ => hclose ⟨hsoi, heoi⟩

theorem sliceError_ne {e : ErrorBit} (hperr : e ≠ .perr) (hovf : e ≠ .ovf) : sliceError cfg s d soi eoi ≠ some e := by
  unfold sliceError
  split_ifs <;> simp [hperr.symm, hovf.symm]

end

/-- `i` closes the open interval of `s` in the state `u`: END as it stands, SAMPLE with EOI after it has accumulated its
difference (42_bit_slicer.md R131, R151). -/
inductive ClosesFrom (s : State) : Instr → State → Prop
  | endInterval : ClosesFrom s .endInterval s
  | sample (ib qb : Byte) : ClosesFrom s (.sample ib qb false true)
      (accum (diff s.prev (normalise ib qb) s.haveprev) (s.notePrev (normalise ib qb)))

namespace State

variable (s : State) (i : Instr)

theorem raised_eq_cerr_iff : s.raised i = some .cerr ↔ ∃ n, i = .setspb n ∧ (n = 0 ∨ s.ivopen = true) := by
  cases i with
  | setspb n =>
    simp only [raised, Option.ite_none_right_eq_some]
    simp
  | sample ib qb soi eoi => simp [raised, sliceError_ne]
  | nop | endInterval | capture | select | ldfrm | clrstat => simp [raised]

theorem raised_eq_perr_iff : s.raised i = some .perr ↔
    ∃ ib qb soi eoi, i = .sample ib qb soi eoi ∧ s.BreaksFraming soi eoi := by
  cases i with
  | sample ib qb soi eoi =>
    rw [raised, sliceError_eq_perr_iff]
    constructor
    · exact fun hbreaks => ⟨ib, qb, soi, eoi, rfl, hbreaks⟩
    · rintro ⟨_, _, _, _, hi, hbreaks⟩
      cases hi
      exact hbreaks
  | nop | endInterval | setspb | capture | select | ldfrm | clrstat => simp [raised]

theorem raised_eq_ovf_iff : s.raised i = some .ovf ↔
    s.ivopen = true ∧ ∃ u, ClosesFrom s i u ∧ u.DropsString Config.params := by
  constructor
  · intro h
    cases i with
    | sample ib qb soi eoi =>
      obtain ⟨rfl, rfl, ho, hdrops⟩ := (sliceError_eq_ovf_iff _ _ _ soi eoi).mp h
      exact ⟨ho, _, .sample ib qb, hdrops⟩
    | endInterval =>
      obtain ⟨ho, hdrops⟩ : s.ivopen = true ∧ s.DropsString Config.params := by simpa [raised] using h
      exact ⟨ho, s, .endInterval, hdrops⟩
    | nop | setspb | capture | select | ldfrm | clrstat => simp [raised] at h
  · rintro ⟨ho, u, hcloses, hdrops⟩
    cases hcloses with
    | endInterval => exact if_pos ⟨ho, hdrops⟩
    | sample ib qb => exact (sliceError_eq_ovf_iff _ _ _ false true).mpr ⟨rfl, rfl, ho, hdrops⟩

theorem raised_eq_serr_iff : s.raised i = some .serr ↔ ∃ k, i = .select k ∧ s.nstr.toNat ≤ k.toNat := by
  cases i with
  | select k => simp [raised]
  | sample ib qb soi eoi => simp [raised, sliceError_ne]
  | nop | endInterval | setspb | capture | ldfrm | clrstat => simp [raised]

end State

/-! ### CERR, PERR and SERR (R221, R222, R224) -/

/-- Settles O55: the state after each of the three causes is the one with CERR recorded. -/
theorem cerrCauses : Obligations.CerrCauses := by
  intro s w hclear
  have hcause := s.afterWord_errorBit_of_clear (w := w) (e := .cerr) hclear
  simp only [State.raisedByWord_eq_some_iff, State.raised_eq_cerr_iff, and_true] at hcause
  refine ⟨s.afterWord w, performWord_eq_next w s, hcause.trans ?_, fun hset => ?_⟩
  · simp
  · obtain ⟨why, hdec⟩ | ⟨_, hdec, n, rfl, hrefused⟩ := hcause.mp hset
    · rw [s.afterWord_of_error hdec]
      rfl
    · rw [s.afterWord_of_ok hdec]
      exact if_pos hrefused

/-- Settles O56. -/
theorem perrCauses : Obligations.PerrCauses := by
  intro s w hclear
  refine ⟨s.afterWord w, performWord_eq_next w s, ?_⟩
  have hcause := s.afterWord_errorBit_of_clear (w := w) (e := .perr) hclear
  rw [s.raisedByWord_eq_some_iff_of_ne (by decide)] at hcause
  refine hcause.trans ?_
  constructor
  · rintro ⟨i, hdec, hraised⟩
    obtain ⟨ib, qb, soi, eoi, rfl, hbreaks⟩ := (s.raised_eq_perr_iff i).mp hraised
    exact ⟨ib, qb, soi, eoi, hdec, hbreaks⟩
  · rintro ⟨ib, qb, soi, eoi, hdec, hbreaks⟩
    exact ⟨_, hdec, (s.raised_eq_perr_iff _).mpr ⟨ib, qb, soi, eoi, rfl, hbreaks⟩⟩

/-- Settles O58. -/
theorem serrCauses : Obligations.SerrCauses := by
  intro s w hclear
  have hcause := s.afterWord_errorBit_of_clear (w := w) (e := .serr) hclear
  rw [s.raisedByWord_eq_some_iff_of_ne (by decide)] at hcause
  simp only [State.raised_eq_serr_iff] at hcause
  refine ⟨s.afterWord w, performWord_eq_next w s, hcause.trans ?_, fun hset => ?_⟩
  · simp
  · obtain ⟨_, hdec, k, rfl, hrange⟩ := hcause.mp hset
    rw [s.afterWord_of_ok hdec, State.after_select_of_le hrange]
    exact ⟨rfl, rfl⟩

/-! ### OVF (R223) -/

/-- A command that closes an interval ends in CLOSE, and the table is still the one before the command. -/
theorem ClosesFrom.after_eq {s u : State} {i : Instr} (h : ClosesFrom s i u) (ho : s.ivopen = true) :
    s.after i = closeInterval Config.params u ∧ u.dt = s.dt ∧ u.nstr = s.nstr := by
  cases h with
  | endInterval => exact ⟨State.after_end_of_open ho, rfl, rfl⟩
  | sample ib qb => exact ⟨State.after_sample_of_open ib qb ho true, accum_dt _ _, accum_nstr _ _⟩

theorem exists_closesFrom_iff (s : State) (i : Instr) :
    (∃ u, ClosesFrom s i u) ↔ i = .endInterval ∨ ∃ ib qb, i = .sample ib qb false true := by
  constructor
  · rintro ⟨u, hcloses⟩
    cases hcloses with
    | endInterval => exact .inl rfl
    | sample ib qb => exact .inr ⟨ib, qb, rfl⟩
  · rintro (rfl | ⟨ib, qb, rfl⟩)
    · exact ⟨s, .endInterval⟩
    · exact ⟨_, .sample ib qb⟩

/-- CLOSE keeps NSYM and SHR, so the drop of its string can be told from the state after it. -/
theorem ClosesFrom.dropsString_iff {s u : State} {i : Instr} (h : ClosesFrom s i u) (ho : s.ivopen = true) :
    u.DropsString Config.params ↔ (s.after i).nsym.toNat = 64 ∧
      (∀ k, k < s.nstr.toNat → s.dt.read k ≠ (s.after i).shr) ∧ Config.params.depth ≤ s.nstr.toNat := by
  obtain ⟨hafter, hdt, hnstr⟩ := h.after_eq ho
  obtain ⟨hnsym, hshr, -⟩ := closeInterval_keeps Config.params u
  rw [hafter, hnsym, hshr, State.DropsString, State.hasString_eq_false_iff, hdt, hnstr]

/-- NSTR never exceeds DEDUP_DEPTH (R44 c), so the table is full exactly when NSTR = DEDUP_DEPTH. -/
theorem State.Inv.full_iff {s : State} (h : s.Inv) :
    Config.params.depth ≤ s.nstr.toNat ↔ s.nstr.toNat = Config.params.depth :=
  ⟨h.nstrDepth.antisymm, fun hfull => hfull.ge⟩

theorem State.raised_eq_ovf_iff_after {s : State} (hinv : s.Inv) (i : Instr) : s.raised i = some .ovf ↔
    (i = .endInterval ∨ ∃ ib qb, i = .sample ib qb false true) ∧ s.ivopen = true ∧ (s.after i).nsym.toNat = 64 ∧
      (∀ k, k < s.nstr.toNat → s.dt.read k ≠ (s.after i).shr) ∧ s.nstr.toNat = Config.params.depth := by
  rw [raised_eq_ovf_iff, ← exists_closesFrom_iff, ← hinv.full_iff]
  constructor
  · rintro ⟨ho, u, hcloses, hdrops⟩
    exact ⟨⟨u, hcloses⟩, ho, (hcloses.dropsString_iff ho).mp hdrops⟩
  · rintro ⟨⟨u, hcloses⟩, ho, hdrops⟩
    exact ⟨ho, u, hcloses, (hcloses.dropsString_iff ho).mpr hdrops⟩

theorem closeInterval_of_dropsString {cfg : Config.Params} {u : State} (h : u.DropsString cfg) :
    closeInterval cfg u = (u.record .ovf).abortInterval := by
  obtain ⟨hlen, hnew, hfull⟩ := h
  rw [← dedupInsert_of_full cfg hnew hfull]
  exact if_pos hlen

/-- Settles O57. -/
theorem ovfCauses : Obligations.OvfCauses := by
  intro s w hinv hclear
  have hcause := s.afterWord_errorBit_of_clear (w := w) (e := .ovf) hclear
  refine ⟨s.afterWord w, performWord_eq_next w s, hcause.trans ?_, fun hset => ?_⟩
  · cases hdec : decode w with
    | ok i =>
      simp only [s.raisedByWord_of_ok hdec, s.afterWord_of_ok hdec, Except.ok.injEq]
      exact State.raised_eq_ovf_iff_after hinv i
    | error why => simp [s.raisedByWord_of_error hdec]
  · obtain ⟨i, hdec, hraised⟩ := (s.raisedByWord_eq_some_iff_of_ne (by decide)).mp (hcause.mp hset)
    obtain ⟨ho, u, hcloses, hdrops⟩ := (s.raised_eq_ovf_iff i).mp hraised
    obtain ⟨hafter, hdt, hnstr⟩ := hcloses.after_eq ho
    rw [s.afterWord_of_ok hdec, hafter, closeInterval_of_dropsString hdrops]
    exact ⟨hdt, hnstr⟩

/-! ### At most one error for a word, and what clears one (R227) -/

/-- A sticky bit is set only if it is the one raised, and each is counted once. -/
theorem newErrors_le_one {s t : State} {o : Option ErrorBit}
    (h : ∀ e, s.errorBit e = false → t.errorBit e = true → o = some e) : newErrors s t ≤ 1 := by
  rw [newErrors, ← List.countP_eq_length_filter]
  calc List.countP (fun e => t.errorBit e && !s.errorBit e) [.cerr, .perr, .ovf, .serr]
      ≤ List.countP (fun e => decide (o = some e)) [.cerr, .perr, .ovf, .serr] :=
        List.countP_mono_left fun e _ hnew => by
          obtain ⟨hset, hclear⟩ : t.errorBit e = true ∧ s.errorBit e = false := by simpa using hnew
          exact decide_eq_true (h e hclear hset)
    _ ≤ 1 := by
      obtain _ | e := o
      · decide
      · cases e <;> decide

/-- Settles O59. -/
theorem oneErrorPerCommandAndErrorsAreSticky : Obligations.OneErrorPerCommandAndErrorsAreSticky := by
  intro s t w _ hword
  obtain rfl := Host.Outcome.next.inj ((performWord_eq_next w s).symm.trans hword)
  refine ⟨newErrors_le_one fun e hclear hset => (s.afterWord_errorBit_of_clear hclear).mp hset, fun e hset hclear => ?_⟩
  have hcleared : ∃ i, decode w = .ok i ∧ Clears i e := by
    by_contra hkeeps
    exact Bool.false_ne_true (hclear.symm.trans (s.afterWord_errorBit.mpr (.inl ⟨hset, hkeeps⟩)))
  obtain ⟨i, hdec, rfl | ⟨rfl, he⟩⟩ := hcleared
  · exact .inl hdec
  · exact .inr ⟨hdec, he⟩

/-! ### SAMPLE that breaks framing (R131, R222) -/

theorem slice_of_loneEoi (cfg : Config.Params) (d : PhaseStep) {s : State} (h : s.ivopen = false) :
    slice cfg false true d s = s.record .perr := by
  simp [slice, h]

theorem slice_of_soi_of_noSpb (cfg : Config.Params) (eoi : Bool) (d : PhaseStep) {s : State} (h : s.spb = 0) :
    slice cfg true eoi d s = (abortUnclosed s).record .perr := by
  rw [slice, if_pos rfl, if_pos ((abortUnclosed_spb s).trans h)]

/-- Settles O25. -/
theorem sampleLoneEoiSetsPerr : Obligations.SampleLoneEoiSetsPerr := by
  intro s ib qb hclosed
  have hslice (d : PhaseStep) (v : IQ) : slice Config.params false true d (s.notePrev v) = (s.notePrev v).record .perr :=
    slice_of_loneEoi _ d hclosed
  rw [exec_eq_next, State.after, hslice]
  rfl

/-- ABORT of an interval that SOI finds open, written out; without one ACC, SC and PERR keep their values. -/
theorem abortUnclosed_eq (s : State) : abortUnclosed s =
    { s with ivopen := false, acc := if s.ivopen then PhaseAcc.zero else s.acc, sc := if s.ivopen then 0 else s.sc,
             perr := s.perr || s.ivopen } := by
  obtain ⟨ho, hres⟩ | ⟨ho, hres⟩ := abortUnclosed_cases s
  · rw [hres, ho, Bool.or_true]
    rfl
  · rw [hres, ho, Bool.or_false, if_neg Bool.false_ne_true, if_neg Bool.false_ne_true, ← ho]

/-- Settles O26. -/
theorem sampleSoiWithoutSpbSetsPerr : Obligations.SampleSoiWithoutSpbSetsPerr := by
  intro s ib qb eoi hspb
  have hslice (d : PhaseStep) (v : IQ) :
      slice Config.params true eoi d (s.notePrev v) = (abortUnclosed (s.notePrev v)).record .perr :=
    slice_of_soi_of_noSpb _ eoi d hspb
  rw [exec_eq_next, State.after, hslice, abortUnclosed_eq]
  rfl

/-! ### Every step completes (R220, R235) -/

theorem State.afterWord_port (s : State) (w : Word) : (s.afterWord w).port = s.port := by
  cases h : decode w with
  | ok i => rw [s.afterWord_of_ok h, (s.after_ports i).1]
  | error why => rw [s.afterWord_of_error h, record_port]

/-- No action of the host stops the block, and none takes another action from the port. -/
theorem performAction_completes (a : HostAction) (s : State) :
    ∃ t, performAction a s = .next t ∧ t.port = s.port := by
  cases a with
  | write w => exact ⟨_, performWord_eq_next w s, s.afterWord_port w⟩
  | read reg => exact ⟨_, rfl, rfl⟩
  | reset => exact ⟨_, rfl, rfl⟩

theorem step_of_port_nil {s : State} (h : s.port = []) : step s = .next s := by
  rw [step, stepPort, h]

/-- Settles O11. -/
theorem everyStepCompletes : Obligations.EveryStepCompletes := by
  refine fun s => ⟨?_, step_of_port_nil⟩
  cases hport : s.port with
  | nil => exact ⟨s, step_of_port_nil hport, hport⟩
  | cons a rest =>
    rw [step_of_port_cons hport]
    exact performAction_completes a (s.withPort rest)

end Sys2Proof.Machine
end

section
/-! SUPPORT. PROOFS of the reset family: the reset input and the readback values right after reset
(70_reset_and_hazards.md R250, R252). -/

namespace Sys2Proof.Machine

/-! ### The reset input (R250) -/

theorem step_of_reset {s : State} {rest : List HostAction} (h : s.port = .reset :: rest) :
    step s = .next (s.withPort rest).resetBlock :=
  step_of_port_cons h

/-- No window has a sample after reset. -/
theorem State.accReal_resetBlock (s : State) : s.resetBlock.accReal = 0 :=
  accReal_of_sc_eq_zero s.resetBlock_sc

/-- Settles O10. -/
theorem resetInputGivesTheResetState : Obligations.ResetInputGivesTheResetState := fun s rest hport =>
  ⟨(s.withPort rest).resetBlock, step_of_reset hport, rfl, rfl, rfl, rfl, (s.withPort rest).accReal_resetBlock,
    rfl, rfl, rfl, rfl, rfl, rfl, rfl, rfl, rfl, rfl, rfl, rfl⟩

/-! ### The registers right after reset (R252) -/

/-- STATUS, the counters, the frame's halves and DEVID (registers 0 to 6 and 8) read 0. -/
theorem readback_reset_eq_zero {reg : BitVec 4} (h : reg.toNat ≤ 6 ∨ reg = 0x8) :
    readback Config.params reg State.reset = 0 := by
  by_cases hstatus : reg = 0x0
  · obtain ⟨-, hzero⟩ := statusRegister
    rw [hstatus, hzero]
  · exact readback_reset _ (by bv_omega)

/-- CAPS with its two fields side by side, DEDUP_DEPTH not truncated by its 16 bits (R51). -/
theorem capsReg_eq_or (cfg : Config.Params) :
    capsReg cfg = (cfg.closeCode.bits.setWidth 32 <<< 16) ||| BitVec.ofNat 32 cfg.depth := by
  have hdepth : cfg.depth < 2 ^ 16 := Nat.lt_of_le_of_lt (depth_le_65535 cfg) (by decide)
  rw [capsReg, place_zero, BitVec.toNat_ofNat, Nat.mod_eq_of_lt hdepth]
  rfl

theorem syncwReg_eq_setWidth (cfg : Config.Params) : syncwReg cfg = cfg.syncWord.setWidth 32 :=
  BitVec.shiftLeft_zero _

/-- Settles O49. -/
theorem readbackAfterReset : Obligations.ReadbackAfterReset :=
  ⟨fun _ => readback_reset_eq_zero, syncReg_zero _, cmdbatReg_zero _, capsReg_eq_or _, syncwReg_eq_setWidth _,
    fun _ => readback_unused _ State.reset⟩

end Sys2Proof.Machine
end
